-- ==== Sys2Proof/Config.lean ====
section
/-! DEFINITION. Constants the spec fixes for the part, and the free values: constants without a body for what the spec leaves open. -/

namespace Sys2Proof

/-- Part code of the identity word (R170, R189). -/
abbrev Config.partCode : Nat := 0x0640

/-- Revision of the identity word (R170, R189). -/
abbrev Config.revision : Nat := 2

/-- Entries of the outstanding read table (R11). -/
abbrev Config.tableSize : Nat := 32

/-- Commands of the command queue (R156). -/
abbrev Config.queueSize : Nat := 64

/-- Spans of one bank (R84). -/
abbrev Config.bankSize : Nat := 2048

/-- Spans of one line of one bank (R84). -/
abbrev Config.lineSize : Nat := 24

/-- Saturation of a buffer's beats counted (R29). -/
abbrev Config.beatsMax : Nat := 16777215

/-- Hatch colour after pin reset and SOFT_RESET (R97, R106, R107). -/
abbrev Config.hatchReset : BitVec 24 := 0xFFB000

/-- Length of the rate window (R115). -/
abbrev Config.rateWindow : Nat := 250

/-- Length of a half of the pulse pattern (R119). -/
abbrev Config.pulseHalf : Nat := 250

/-- Length of the chime (R118). -/
abbrev Config.chimeLength : Nat := 2000

/-- FREE VALUE (log 4): which of several timers due at one millisecond expires next, taken modulo their number.
"Where two events can arrive in either order ..." (00 section 4): no order is given among them. -/
opaque Config.expiryChoice : Nat → Nat

/-- FREE VALUE (log 5): whether at a frame start SCAN_STALL ends before the chime start is taken; R47 step 8, R58 and R60 give no order. -/
opaque Config.stallEndsFirst : Nat → Bool

end Sys2Proof
end

