-- ==== Sys2Proof/Word.lean ====
section
/-! DEFINITION. The words of the link and of the part, and the records that cross its pins: requests, responses, write beats (R1, R2, R185) and what the outside presents on a vehicle line (R109). -/

namespace Sys2Proof

/-- A command word or a beat of link data: 64 bits (R185, R186). -/
abbrev Word := BitVec 64

/-- A beat's 64 data bits; byte j lies in bits 8j+7..8j (section 10.1). -/
abbrev Beat := BitVec 64

/-- A pixel: unused byte, red, green, blue (conventions of 00). -/
abbrev Pixel := BitVec 32

/-- A colour 0xRRGGBB. -/
abbrev Colour := BitVec 24

/-- A request's tag, 0 to 15 (R1). -/
abbrev Tag := BitVec 4

/-- A value of the millisecond counter (R20). -/
abbrev Millis := BitVec 32

/-- Bits 31..3 of a beat address, as the link carries them (R185). -/
abbrev BeatAddr := BitVec 29

/-- One data beat of a WRITE with its byte enables; flag j covers byte j (R1). -/
structure WriteBeat where
  data : Beat
  enables : BitVec 8
  deriving DecidableEq, Repr

/-- A WRITE request; its beat count is the number of its data beats (R1). -/
structure WriteReq where
  tag : Tag
  addr : BeatAddr
  data : List WriteBeat
  deriving DecidableEq, Repr

/-- A READ request; `beats` is the beat count minus 1, as on the link (R1, R185). -/
structure ReadReq where
  tag : Tag
  addr : BeatAddr
  beats : BitVec 4
  deriving DecidableEq, Repr

/-- A READ response; its beat count is the number of its data beats, 0 to 31 (R2, R185). -/
structure ReadResp where
  tag : Tag
  error : Bool
  data : List Beat
  deriving DecidableEq, Repr

/-- A WRITE response; it carries its beat count field and no data (R2, R185). -/
structure WriteResp where
  tag : Tag
  error : Bool
  count : BitVec 5
  deriving DecidableEq, Repr

/-- How strongly the outside holds a vehicle line's pin (R109, log 10). -/
inductive Grip
  /-- Nothing outside drives the pin: a connected pull-up makes it high. -/
  | floating
  /-- The outside drives the pin, but the part's own drive is stronger. -/
  | driven
  /-- The outside overpowers the part's own drive. -/
  | overpowering
  deriving DecidableEq, Repr

/-- What the outside presents on a vehicle line's pin: the level it has with pull-up disconnected, and how strongly (R109). -/
structure Outside where
  level : Bool
  grip : Grip
  deriving DecidableEq, Repr

end Sys2Proof
end

