-- ==== Sys2Proof/Syntax.lean ====
section
/-! DEFINITION. Instr: one constructor per row of spec/opcode_table.json. The command rows carry the declared length of their header and the argument fields at the widths of section 10.2; the other rows carry what crosses the pins at the event. -/

namespace Sys2Proof

/-- Argument fields of SET_SCAN (section 10.2, R43). -/
structure ScanArgs where
  tag : BitVec 4
  base : BitVec 32
  stride : BitVec 15
  width : BitVec 12
  height : BitVec 11
  stall : BitVec 10
  deriving DecidableEq, Repr

/-- Argument fields of SET_CAPTURE (section 10.2, R25). -/
structure CaptureArgs where
  camera : BitVec 3
  owner : BitVec 4
  base : BitVec 32
  ring : BitVec 3
  width : BitVec 12
  height : BitVec 11
  stride : BitVec 15
  spacing : BitVec 32
  fresh : BitVec 11
  deriving DecidableEq, Repr

/-- Argument fields of SET_PANE (section 10.2, R66). -/
structure PaneArgs where
  pane : BitVec 5
  camera : BitVec 3
  mirror : Bool
  left : BitVec 12
  top : BitVec 11
  width : BitVec 12
  height : BitVec 11
  srcX : BitVec 12
  srcY : BitVec 11
  deriving DecidableEq, Repr

/-- Argument fields of SET_VIEW (section 10.2, R127). -/
structure ViewArgs where
  view : BitVec 4
  count : BitVec 3
  pane0 : BitVec 4
  pane1 : BitVec 4
  pane2 : BitVec 4
  pane3 : BitVec 4
  layers : BitVec 8
  chime : Bool
  mask : BitVec 9
  values : BitVec 9
  linger : BitVec 8
  deriving DecidableEq, Repr

/-- Argument fields of ADD_SPAN (section 10.2, R89). -/
structure SpanArgs where
  layer : BitVec 3
  mode : BitVec 2
  line : BitVec 11
  x0 : BitVec 11
  colour : BitVec 24
  x1 : BitVec 11
  deriving DecidableEq, Repr

/-- Argument fields of REMOVE_SPAN (section 10.2, R90). -/
structure KeyArgs where
  layer : BitVec 3
  line : BitVec 11
  x0 : BitVec 11
  deriving DecidableEq, Repr

/-- Argument fields of SET_LINE (section 10.2, R108). -/
structure LineArgs where
  line : BitVec 4
  function : BitVec 3
  pullUp : Bool
  activeLow : Bool
  edge : BitVec 2
  debounce : BitVec 8
  deriving DecidableEq, Repr

/-- The events of the part, one constructor per row of spec/opcode_table.json. `len` is the declared length of the command's header (R186). -/
inductive Instr
  /-- WRITE_REQUEST (R8): the master offers a WRITE, or (`none`) the WRITE waiting at the head of the port is offered still. `held`: the memory controller holds the memory port request channel at this event (R10). -/
  | writeRequest (held : Bool) (r : Option WriteReq)
  /-- READ_REQUEST (R9): likewise for a READ; `none` is a held request finally taken. -/
  | readRequest (held : Bool) (r : Option ReadReq)
  /-- READ_RESPONSE (R12): the memory controller offers a READ response, or (`none`) the one waiting at the head is taken. -/
  | readResponse (r : Option ReadResp)
  /-- WRITE_RESPONSE (R12): likewise for a WRITE response. -/
  | writeResponse (r : Option WriteResp)
  /-- RESPONSE_DELIVERY (R14, R171): the master takes up to `beats` further beats of the held response; 0: it holds the channel. -/
  | responseDelivery (beats : Nat)
  /-- RESET_ASSERT (R19): RESET_N goes low. -/
  | resetAssert
  /-- RESET_RELEASE (R149): RESET_N is released with the straps PAGESEL1, PAGESEL0 at these levels. -/
  | resetRelease (straps : BitVec 2)
  /-- MILLISECOND_TICK (R20). -/
  | millisecondTick
  /-- CLOCK_LOSS (R22), with the rising edges counted in the interrupted period (R24). -/
  | clockLoss (edges : Nat)
  /-- CLOCK_RETURN (R22): the first edge, rising or falling. -/
  | clockReturn (rising : Bool)
  /-- LINE_LEVEL_CHANGE (R109, R110): the outside presents something new on line Ln. -/
  | lineLevelChange (line : Fin 8) (outside : Outside)
  /-- DEBOUNCE_TIMER_EXPIRY (R110). -/
  | debounceTimerExpiry (line : Fin 8)
  /-- RATE_WINDOW_EXPIRY (R115). -/
  | rateWindowExpiry
  /-- LATENESS_TIMER_EXPIRY (R37). -/
  | latenessTimerExpiry (camera : Fin 6)
  /-- SCAN_STALL_TIMER_EXPIRY (R60). -/
  | scanStallTimerExpiry
  /-- LINGER_TIMER_EXPIRY (R132). -/
  | lingerTimerExpiry (view : Fin 8)
  /-- PULSE_TIMER_EXPIRY (R119). -/
  | pulseTimerExpiry
  /-- CHIME_TIMER_EXPIRY (R118). -/
  | chimeTimerExpiry
  /-- EDIT_WAIT_END (R87). -/
  | editWaitEnd
  /-- EDIT_COMPLETION (R88). -/
  | editCompletion
  /-- RUN (R162). -/
  | run (len : BitVec 3)
  /-- BYPASS (R163). -/
  | bypass (len : BitVec 3)
  /-- SOFT_RESET (R164). -/
  | softReset (len : BitVec 3)
  /-- SET_SCAN (R43). -/
  | setScan (len : BitVec 3) (args : ScanArgs)
  /-- SET_CAPTURE (R25). -/
  | setCapture (len : BitVec 3) (args : CaptureArgs)
  /-- CLEAR_CAPTURE (R27). -/
  | clearCapture (len : BitVec 3) (camera : BitVec 3)
  /-- SET_PANE (R66). -/
  | setPane (len : BitVec 3) (args : PaneArgs)
  /-- CLEAR_PANE (R68). -/
  | clearPane (len : BitVec 3) (pane : BitVec 5)
  /-- SET_VIEW (R127). -/
  | setView (len : BitVec 3) (args : ViewArgs)
  /-- CLEAR_VIEW (R129). -/
  | clearView (len : BitVec 3) (view : BitVec 4)
  /-- REQUEST_VIEW (R133). -/
  | requestView (len : BitVec 3) (view : BitVec 4)
  /-- RELEASE_VIEW (R134). -/
  | releaseView (len : BitVec 3) (view : BitVec 4)
  /-- TRUNCATE_STACK (R143). -/
  | truncateStack (len : BitVec 3) (depth : BitVec 4)
  /-- ADD_SPAN (R89). -/
  | addSpan (len : BitVec 3) (args : SpanArgs)
  /-- REMOVE_SPAN (R90). -/
  | removeSpan (len : BitVec 3) (args : KeyArgs)
  /-- CLEAR_BANK (R91). -/
  | clearBank (len : BitVec 3)
  /-- COPY_BANK (R92). -/
  | copyBank (len : BitVec 3)
  /-- FLIP_BANK (R93). -/
  | flipBank (len : BitVec 3)
  /-- SET_HATCH (R97). -/
  | setHatch (len : BitVec 3) (colour : Colour)
  /-- SET_LINE (R108). -/
  | setLine (len : BitVec 3) (args : LineArgs)
  /-- SET_RATE (R114). -/
  | setRate (len : BitVec 3) (source : BitVec 4) (threshold : BitVec 8)
  /-- SET_EVENTS (R175). -/
  | setEvents (len : BitVec 3) (enable : BitVec 14) (urgent : BitVec 14)
  /-- ACK_EVENTS (R179). -/
  | ackEvents (len : BitVec 3) (mask : BitVec 14)
  /-- SILENCE_ALERT (R121). -/
  | silenceAlert (len : BitVec 3)
  /-- A command whose code is not in the catalogue (R158), with the 53 bits of argument field 0. -/
  | unknownCodeCommand (len : BitVec 3) (code : BitVec 8) (args : BitVec 53)
  deriving DecidableEq, Repr

end Sys2Proof
end

