-- ==== Sys2Proof/WellFormed.lean ====
section
/-! DEFINITION. What the link, the pins and the command framing can present at all: an Instr outside this is no event of the part. -/

namespace Sys2Proof

/-- The codes of the command catalogue (R168). -/
def catalogueCodes : List (BitVec 8) :=
  [0x01, 0x02, 0x03, 0x10, 0x11, 0x12, 0x20, 0x21, 0x30, 0x31, 0x32, 0x33, 0x34, 0x40, 0x41, 0x42, 0x43, 0x44, 0x45,
   0x50, 0x51, 0x60, 0x61, 0x62]

/-- An assembled command is framed by a declared length of 1 to 4 (R152). -/
def framedLength (len : BitVec 3) : Bool := 1 ≤ len.toNat && len.toNat ≤ 4

/-- A burst has 1 to 16 beats (R1). -/
def burstLength (n : Nat) : Bool := 1 ≤ n && n ≤ 16

/-- Well-formed events. -/
def Instr.wf : Instr → Bool
  | .writeRequest _ (some r) => burstLength r.data.length
  | .writeRequest _ none => true
  | .readRequest _ _ => true
  | .readResponse (some r) => r.data.length ≤ 31
  | .readResponse none => true
  | .writeResponse _ => true
  | .responseDelivery n => n ≤ 31
  | .resetAssert | .resetRelease _ | .millisecondTick => true
  | .clockLoss edges => edges < 1000
  | .clockReturn _ | .lineLevelChange _ _ | .debounceTimerExpiry _ | .rateWindowExpiry | .latenessTimerExpiry _
  | .scanStallTimerExpiry => true
  | .lingerTimerExpiry v => v ≠ 0
  | .pulseTimerExpiry | .chimeTimerExpiry | .editWaitEnd | .editCompletion => true
  | .run len | .bypass len | .softReset len | .setScan len _ | .setCapture len _ | .clearCapture len _ | .setPane len _
  | .clearPane len _ | .setView len _ | .clearView len _ | .requestView len _ | .releaseView len _ | .truncateStack len _
  | .addSpan len _ | .removeSpan len _ | .clearBank len | .copyBank len | .flipBank len | .setHatch len _ | .setLine len _
  | .setRate len _ _ | .setEvents len _ _ | .ackEvents len _ | .silenceAlert len => framedLength len
  | .unknownCodeCommand len code _ => framedLength len && !catalogueCodes.contains code

end Sys2Proof
end

