-- ==== Sys2Proof/Decode.lean ====
section
/-! DEFINITION. The command words of section 10.2 (R186 to R188): their fields decoded, and encoded from the same tables. The rows of the table give no bits, so decodeTableWord spells no event. -/

namespace Sys2Proof

/-- The commands of the catalogue with their argument fields (R168). -/
inductive Cmd
  | run | bypass | softReset
  | setScan (a : ScanArgs)
  | setCapture (a : CaptureArgs)
  | clearCapture (camera : BitVec 3)
  | setPane (a : PaneArgs)
  | clearPane (pane : BitVec 5)
  | setView (a : ViewArgs)
  | clearView (view : BitVec 4)
  | requestView (view : BitVec 4)
  | releaseView (view : BitVec 4)
  | truncateStack (depth : BitVec 4)
  | addSpan (a : SpanArgs)
  | removeSpan (a : KeyArgs)
  | clearBank | copyBank | flipBank
  | setHatch (colour : Colour)
  | setLine (a : LineArgs)
  | setRate (source : BitVec 4) (threshold : BitVec 8)
  | setEvents (enable urgent : BitVec 14)
  | ackEvents (mask : BitVec 14)
  | silenceAlert
  deriving DecidableEq, Repr

/-- The code of a command (R168). -/
def Cmd.code : Cmd → BitVec 8
  | .run => 0x01
  | .bypass => 0x02
  | .softReset => 0x03
  | .setScan _ => 0x10
  | .setCapture _ => 0x11
  | .clearCapture _ => 0x12
  | .setPane _ => 0x20
  | .clearPane _ => 0x21
  | .setView _ => 0x30
  | .clearView _ => 0x31
  | .requestView _ => 0x32
  | .releaseView _ => 0x33
  | .truncateStack _ => 0x34
  | .addSpan _ => 0x40
  | .removeSpan _ => 0x41
  | .clearBank => 0x42
  | .copyBank => 0x43
  | .flipBank => 0x44
  | .setHatch _ => 0x45
  | .setLine _ => 0x50
  | .setRate _ _ => 0x51
  | .setEvents _ _ => 0x60
  | .ackEvents _ => 0x61
  | .silenceAlert => 0x62

/-- The defined length of a command in words (R168). -/
def Cmd.length : Cmd → BitVec 3
  | .setScan _ => 3
  | .setCapture _ => 4
  | .setPane _ | .setView _ | .addSpan _ => 2
  | .run | .bypass | .softReset | .clearCapture _ | .clearPane _ | .clearView _ | .requestView _ | .releaseView _
  | .truncateStack _ | .removeSpan _ | .clearBank | .copyBank | .flipBank | .setHatch _ | .setLine _ | .setRate _ _
  | .setEvents _ _ | .ackEvents _ | .silenceAlert => 1

/-- The `n` bits of a word from bit `lo` up. -/
def field (w : Word) (lo n : Nat) : BitVec n := w.extractLsb' lo n

/-- One bit of a word. -/
def flag (w : Word) (lo : Nat) : Bool := w.getLsbD lo

/-- A field put at bit `lo` of an otherwise zero word. -/
def put {n : Nat} (v : BitVec n) (lo : Nat) : Word := v.setWidth 64 <<< lo

/-- A flag put at bit `lo` of an otherwise zero word. -/
def putFlag (b : Bool) (lo : Nat) : Word := put (BitVec.ofBool b) lo

/-- Code of a header, bits 63..56 (R186). -/
def headerCode (w : Word) : BitVec 8 := field w 56 8

/-- Declared length of a header, bits 55..53 (R186). -/
def headerLength (w : Word) : BitVec 3 := field w 53 3

/-- Word i of a command; a word the command does not have is not read by any layout of its length. -/
def wordAt (ws : List Word) (i : Nat) : Word := ws.getD i 0

/-- SET_SCAN's fields (section 10.2). -/
def decodeScanArgs (ws : List Word) : ScanArgs :=
  { base := field (wordAt ws 0) 0 32, tag := field (wordAt ws 0) 32 4, stride := field (wordAt ws 1) 0 15,
    width := field (wordAt ws 1) 16 12, height := field (wordAt ws 2) 0 11, stall := field (wordAt ws 2) 16 10 }

/-- SET_CAPTURE's fields (section 10.2). -/
def decodeCaptureArgs (ws : List Word) : CaptureArgs :=
  { base := field (wordAt ws 0) 0 32, camera := field (wordAt ws 0) 32 3, owner := field (wordAt ws 0) 36 4,
    ring := field (wordAt ws 0) 40 3, width := field (wordAt ws 1) 0 12, height := field (wordAt ws 1) 16 11,
    stride := field (wordAt ws 1) 32 15, spacing := field (wordAt ws 2) 0 32, fresh := field (wordAt ws 3) 0 11 }

/-- SET_PANE's fields (section 10.2). -/
def decodePaneArgs (ws : List Word) : PaneArgs :=
  { pane := field (wordAt ws 0) 0 5, camera := field (wordAt ws 0) 8 3, mirror := flag (wordAt ws 0) 12,
    left := field (wordAt ws 0) 16 12, top := field (wordAt ws 0) 32 11, width := field (wordAt ws 1) 0 12,
    height := field (wordAt ws 1) 16 11, srcX := field (wordAt ws 1) 32 12, srcY := field (wordAt ws 1) 48 11 }

/-- SET_VIEW's fields (section 10.2). -/
def decodeViewArgs (ws : List Word) : ViewArgs :=
  { view := field (wordAt ws 0) 0 4, count := field (wordAt ws 0) 4 3, pane0 := field (wordAt ws 0) 8 4,
    pane1 := field (wordAt ws 0) 12 4, pane2 := field (wordAt ws 0) 16 4, pane3 := field (wordAt ws 0) 20 4,
    layers := field (wordAt ws 0) 24 8, chime := flag (wordAt ws 0) 32, mask := field (wordAt ws 1) 0 9,
    values := field (wordAt ws 1) 16 9, linger := field (wordAt ws 1) 32 8 }

/-- ADD_SPAN's fields (section 10.2). -/
def decodeSpanArgs (ws : List Word) : SpanArgs :=
  { layer := field (wordAt ws 0) 0 3, mode := field (wordAt ws 0) 4 2, line := field (wordAt ws 0) 16 11,
    x0 := field (wordAt ws 0) 32 11, colour := field (wordAt ws 1) 0 24, x1 := field (wordAt ws 1) 32 11 }

/-- REMOVE_SPAN's fields (section 10.2). -/
def decodeKeyArgs (ws : List Word) : KeyArgs :=
  { layer := field (wordAt ws 0) 0 3, line := field (wordAt ws 0) 16 11, x0 := field (wordAt ws 0) 32 11 }

/-- SET_LINE's fields (section 10.2). -/
def decodeLineArgs (ws : List Word) : LineArgs :=
  { line := field (wordAt ws 0) 0 4, function := field (wordAt ws 0) 8 3, pullUp := flag (wordAt ws 0) 12,
    activeLow := flag (wordAt ws 0) 13, edge := field (wordAt ws 0) 16 2, debounce := field (wordAt ws 0) 24 8 }

/-- The command of a code, its fields read from the words (R186, R187); `none`: the code is not in the catalogue. -/
def decodeCode (code : BitVec 8) (ws : List Word) : Option Cmd :=
  match code.toNat with
  | 0x01 => some .run
  | 0x02 => some .bypass
  | 0x03 => some .softReset
  | 0x10 => some (.setScan (decodeScanArgs ws))
  | 0x11 => some (.setCapture (decodeCaptureArgs ws))
  | 0x12 => some (.clearCapture (field (wordAt ws 0) 32 3))
  | 0x20 => some (.setPane (decodePaneArgs ws))
  | 0x21 => some (.clearPane (field (wordAt ws 0) 0 5))
  | 0x30 => some (.setView (decodeViewArgs ws))
  | 0x31 => some (.clearView (field (wordAt ws 0) 0 4))
  | 0x32 => some (.requestView (field (wordAt ws 0) 0 4))
  | 0x33 => some (.releaseView (field (wordAt ws 0) 0 4))
  | 0x34 => some (.truncateStack (field (wordAt ws 0) 0 4))
  | 0x40 => some (.addSpan (decodeSpanArgs ws))
  | 0x41 => some (.removeSpan (decodeKeyArgs ws))
  | 0x42 => some .clearBank
  | 0x43 => some .copyBank
  | 0x44 => some .flipBank
  | 0x45 => some (.setHatch (field (wordAt ws 0) 0 24))
  | 0x50 => some (.setLine (decodeLineArgs ws))
  | 0x51 => some (.setRate (field (wordAt ws 0) 0 4) (field (wordAt ws 0) 8 8))
  | 0x60 => some (.setEvents (field (wordAt ws 0) 0 14) (field (wordAt ws 0) 32 14))
  | 0x61 => some (.ackEvents (field (wordAt ws 0) 0 14))
  | 0x62 => some .silenceAlert
  | _ => none

/-- The command that the words of an assembled command are (R187). -/
def decodeCommand (ws : List Word) : Option Cmd := decodeCode (headerCode (wordAt ws 0)) ws

/-- A header with argument field 0 as given (R186). -/
def header (code : BitVec 8) (len : BitVec 3) (args : Word) : Word := put code 56 ||| put len 53 ||| args

/-- Argument field 0 of the header (bits 52..0), reserved bits 0. -/
def Cmd.headerArgs : Cmd → Word
  | .run | .bypass | .softReset | .clearBank | .copyBank | .flipBank | .silenceAlert => 0
  | .setScan a => put a.base 0 ||| put a.tag 32
  | .setCapture a => put a.base 0 ||| put a.camera 32 ||| put a.owner 36 ||| put a.ring 40
  | .clearCapture c => put c 32
  | .setPane a => put a.pane 0 ||| put a.camera 8 ||| putFlag a.mirror 12 ||| put a.left 16 ||| put a.top 32
  | .clearPane p => put p 0
  | .setView a => put a.view 0 ||| put a.count 4 ||| put a.pane0 8 ||| put a.pane1 12 ||| put a.pane2 16 ||| put a.pane3 20
      ||| put a.layers 24 ||| putFlag a.chime 32
  | .clearView v | .requestView v | .releaseView v => put v 0
  | .truncateStack d => put d 0
  | .addSpan a => put a.layer 0 ||| put a.mode 4 ||| put a.line 16 ||| put a.x0 32
  | .removeSpan a => put a.layer 0 ||| put a.line 16 ||| put a.x0 32
  | .setHatch c => put c 0
  | .setLine a => put a.line 0 ||| put a.function 8 ||| putFlag a.pullUp 12 ||| putFlag a.activeLow 13 ||| put a.edge 16
      ||| put a.debounce 24
  | .setRate s t => put s 0 ||| put t 8
  | .setEvents e u => put e 0 ||| put u 32
  | .ackEvents m => put m 0

/-- The continuations of a command, reserved bits 0. -/
def Cmd.continuations : Cmd → List Word
  | .setScan a => [put a.stride 0 ||| put a.width 16, put a.height 0 ||| put a.stall 16]
  | .setCapture a => [put a.width 0 ||| put a.height 16 ||| put a.stride 32, put a.spacing 0, put a.fresh 0]
  | .setPane a => [put a.width 0 ||| put a.height 16 ||| put a.srcX 32 ||| put a.srcY 48]
  | .setView a => [put a.mask 0 ||| put a.values 16 ||| put a.linger 32]
  | .addSpan a => [put a.colour 0 ||| put a.x1 32]
  | .run | .bypass | .softReset | .clearCapture _ | .clearPane _ | .clearView _ | .requestView _ | .releaseView _
  | .truncateStack _ | .removeSpan _ | .clearBank | .copyBank | .flipBank | .setHatch _ | .setLine _ | .setRate _ _
  | .setEvents _ _ | .ackEvents _ | .silenceAlert => []

/-- A header and its continuations cut or filled with zero words to the declared length (R187: a command framed by another length is refused whatever its continuations hold; log 25). -/
def frame (len : BitVec 3) (hd : Word) (rest : List Word) : List Word :=
  hd :: ((rest ++ [0, 0, 0]).take (len.toNat - 1))

/-- The words of a command whose header declares `len` words (R186). -/
def encodeCommand (len : BitVec 3) (c : Cmd) : List Word :=
  frame len (header c.code len c.headerArgs) c.continuations

/-- The event a table row's bits spell: the table gives no row any bits, so none. -/
def decodeTableWord (_nbits _w : Nat) : Option Instr := none

end Sys2Proof
end

