-- ==== Sys2Proof/Machine/State.lean ====
section
/-! DEFINITION. The state of the part, block by block as section 2.2 of 00 lists them, the reasons a step can stop, and the state right after reset. -/

namespace Sys2Proof.Machine

/-- No event of the part stops it: the spec gives every event an effect, so there is no fault. -/
inductive Fault
  deriving DecidableEq, Repr

/-- Reasons a step answers no meaning. -/
inductive Refusal
  /-- Raised by exec's arm of an event that has no meaning yet; safe: nothing can be proved about it. No arm does. -/
  | notModelled (mnemonic : String)
  deriving DecidableEq, Repr

/-- A millisecond timer: stopped, or aimed at a counter value (R21). -/
abbrev Timer := Option Millis

/-! ### Link Forwarder (01) -/

/-- A request on a port (R1). -/
inductive Request
  | read (r : ReadReq)
  | write (w : WriteReq)
  deriving DecidableEq, Repr

/-- A response on a port (R2). -/
inductive Response
  | read (r : ReadResp)
  | write (w : WriteResp)
  deriving DecidableEq, Repr

/-- The request class of a read (R6). -/
inductive ReadClass
  | plain | status | scan
  deriving DecidableEq, Repr

/-- Pane and mirror flag of a redirected read (R11). -/
structure Redirect where
  pane : Fin 16
  mirror : Bool
  deriving DecidableEq, Repr

/-- An entry of the outstanding read table (R11); `beats` is the beat count minus 1. -/
structure Entry where
  tag : Tag
  addr : BeatAddr
  beats : BitVec 4
  cls : ReadClass
  context : Option (Fin 2)
  redirect : Option Redirect
  deriving DecidableEq, Repr

/-- The response taken and being delivered (R14), with the entry it matched (R12), whether the response stages apply (R13) and the beats already delivered (R171). -/
structure Delivering where
  response : Response
  entry : Option Entry
  staged : Bool
  sent : Nat
  deriving DecidableEq, Repr

/-- Beats put on the system port's response channel at one event, from beat `first` of a response; `final`: the response is then delivered. -/
structure Delivered where
  tag : Tag
  isWrite : Bool
  error : Bool
  count : BitVec 5
  first : Nat
  beats : List Beat
  final : Bool
  deriving DecidableEq, Repr

/-- State of the Link Forwarder. -/
structure Link where
  /-- Requests offered on the system port and not taken, head first (R3, R10; log 6). -/
  sysPort : List Request
  /-- Responses offered on the memory port and not taken, head first (R3, R14; log 7). -/
  memPort : List Response
  /-- The outstanding read table, oldest first (R11). -/
  table : List Entry
  delivering : Option Delivering
  /-- What the part last offered on the memory port's request channel (R7; log 22). -/
  memOut : Option Request
  /-- What the part last offered on the system port's response channel (R14; log 22). -/
  sysOut : Option Delivered
  deriving DecidableEq, Repr

/-! ### Time Base and Capture Monitor (02) -/

/-- State of the Time Base (R20, R22, R23). -/
structure TimeBase where
  ms : Millis
  period : Nat
  lost : Bool
  wasLost : Bool
  deriving DecidableEq, Repr

/-- Corrupt causes (R29). -/
inductive CorruptCause
  | abandoned | short | stray | foreign
  deriving DecidableEq, Repr

/-- A ring buffer's record (R29). -/
inductive BufferRec
  | empty
  | filling (seq : BitVec 32) (beats : Nat)
  | complete (seq : BitVec 32) (time : Millis)
  | corrupt (seq : BitVec 32) (cause : CorruptCause)
  deriving DecidableEq, Repr

/-- Camera states (R37). -/
inductive CameraState
  | noFrame | fresh | late
  deriving DecidableEq, Repr

/-- The last corruption record (R35). -/
structure Corruption where
  buffer : Nat
  seq : BitVec 32
  cause : CorruptCause
  deriving DecidableEq, Repr

/-- The definition fields of a capture record (R25). -/
structure CaptureDef where
  owner : Tag
  base : Nat
  ring : Nat
  width : Nat
  height : Nat
  stride : Nat
  spacing : Nat
  limit : Nat
  deriving DecidableEq, Repr

/-- A defined capture record (R25, R26). -/
structure CaptureRec where
  geo : CaptureDef
  buffers : List BufferRec
  nextSeq : BitVec 32
  newest : Option Nat
  state : CameraState
  lateness : Timer
  lastCorruption : Option Corruption
  deriving DecidableEq, Repr

/-- A camera: its generation and its capture record, if defined (R26, R27). -/
structure Camera where
  generation : BitVec 16
  record : Option CaptureRec
  deriving DecidableEq, Repr

/-! ### Scan Tracker and Redirect Unit (03, 04) -/

/-- The scan window definition (R43). -/
structure ScanDef where
  tag : Tag
  base : Nat
  stride : Nat
  width : Nat
  height : Nat
  limit : Nat
  deriving DecidableEq, Repr

/-- The geometry of a pane (R52, R65). -/
structure PaneGeo where
  left : Nat
  top : Nat
  width : Nat
  height : Nat
  srcX : Nat
  srcY : Nat
  mirror : Bool
  deriving DecidableEq, Repr

/-- A defined pane record (R65). -/
structure PaneRec where
  camera : Fin 6
  geo : PaneGeo
  deriving DecidableEq, Repr

/-- Judgements of a pane (R51). -/
inductive Judgement
  | live | stale | dark
  deriving DecidableEq, Repr

/-- A lock on a capture buffer (R51); `current` is false once the camera was redefined after the lock was taken (R40). -/
structure Lock where
  camera : Fin 6
  generation : BitVec 16
  buffer : Nat
  base : Nat
  stride : Nat
  current : Bool
  deriving DecidableEq, Repr

/-- A pane entry of a frame context (R52). -/
structure PaneEntry where
  pane : Fin 16
  geo : PaneGeo
  judgement : Judgement
  lock : Option Lock
  torn : Bool
  mismatch : Bool
  deriving DecidableEq, Repr

/-- The span banks (R85). -/
inductive Bank
  | a | b
  deriving DecidableEq, Repr

/-- A live frame context (R47, R52); its reference count is the number of entries that name it (R54). -/
structure Context where
  opened : Bool
  frame : BitVec 32
  start : Millis
  base : Nat
  stride : Nat
  width : Nat
  height : Nat
  view : Fin 8
  mask : BitVec 8
  bank : Bank
  hatch : Colour
  panes : List PaneEntry
  deriving DecidableEq, Repr

/-- State of the Scan Tracker. -/
structure Scan where
  definition : Option ScanDef
  slots : Vector (Option Context) 2
  /-- The slot whose context was opened last (R46, R55). -/
  lastOpened : Fin 2
  frame : BitVec 32
  lastShown : Option (Fin 8)
  stallTimer : Timer
  scanStall : Bool
  staleShown : Bool
  deriving DecidableEq, Repr

/-! ### Overlay Compositor (05) -/

/-- Span modes (R101). -/
inductive SpanMode
  | solid | mix | shade
  deriving DecidableEq, Repr

/-- A span (R83). -/
structure Span where
  layer : Fin 8
  line : Nat
  x0 : Nat
  x1 : Nat
  colour : Colour
  mode : SpanMode
  deriving DecidableEq, Repr

/-- The edit an edit command carries (R89 to R92). -/
inductive Edit
  | add (s : Span)
  | remove (layer : Fin 8) (line x0 : Nat)
  | clear
  | copy
  deriving DecidableEq, Repr

/-- The edit engine (R86), with the edit it carries and its target bank. -/
inductive Engine
  | idle
  | waiting (e : Edit) (target : Bank)
  | editing (e : Edit) (target : Bank)
  deriving DecidableEq, Repr

/-- State of the Overlay Compositor. Each bank is in key order (R84). -/
structure Overlay where
  bankA : List Span
  bankB : List Span
  active : Bank
  hatch : Colour
  engine : Engine
  flipWaiting : Bool
  deriving DecidableEq, Repr

/-! ### Line Conditioner and Alert Driver (06) -/

/-- Functions of a line (R108). -/
inductive LineFunction
  | input | alert | alertInv | lamp
  deriving DecidableEq, Repr

/-- Edge event modes (R112). -/
inductive EdgeMode
  | never | rising | falling | both
  deriving DecidableEq, Repr

/-- The configuration of a line (R108). -/
structure LineConfig where
  function : LineFunction
  pullUp : Bool
  activeLow : Bool
  debounce : Nat
  edge : EdgeMode
  deriving DecidableEq, Repr

/-- A vehicle line: configuration, what the outside presents on its pin, debounced level and debounce timer (R108 to R110). -/
structure VehicleLine where
  config : LineConfig
  outside : Outside
  debounced : Bool
  timer : Timer
  deriving DecidableEq, Repr

/-- The rate input (R114, R115). -/
structure Rate where
  source : Option (Fin 8)
  threshold : Nat
  running : Nat
  last : Nat
  timer : Timer
  k8 : Bool
  deriving DecidableEq, Repr

/-- Causes of the Alert Driver (R117). -/
inductive Cause
  | staleShown | scanStall | chime
  deriving DecidableEq, Repr

/-- The pulse phase (R119). -/
inductive Phase
  | idle | on | off
  deriving DecidableEq, Repr

/-- State of the Alert Driver (R117 to R122). STALE_SHOWN and SCAN_STALL are present as the Scan Tracker's conditions. -/
structure Alert where
  chime : Bool
  chimeTimer : Timer
  phase : Phase
  pulseTimer : Timer
  silenced : Bool
  /-- The silence record, without repeats, in the order of `Cause`. -/
  record : List Cause
  deriving DecidableEq, Repr

/-! ### View Arbiter (07) -/

/-- A defined view record (R126). -/
structure ViewDef where
  panes : List (Fin 16)
  layers : BitVec 8
  mask : BitVec 9
  values : BitVec 9
  linger : Nat
  chime : Bool
  deriving DecidableEq, Repr

/-- A view's trigger hold, with its linger timer's aim (R131, R132). -/
inductive TriggerHold
  | absent
  | matching
  | lingering (aim : Millis)
  deriving DecidableEq, Repr

/-- A view: its record, match state and holds (R126, R130, R135). -/
structure View where
  definition : Option ViewDef
  inMatch : Bool
  trigger : TriggerHold
  command : Bool
  deriving DecidableEq, Repr

/-- An entry of the view stack (R137). -/
structure StackEntry where
  view : Fin 8
  released : Bool
  entered : Millis
  deriving DecidableEq, Repr

/-! ### Command Unit (08) -/

/-- Result codes of a command (R158). -/
inductive Result
  | ok | unknown | badArgument | notReady | inUse | overlap | duplicate | full | lineFull | notFound | length
  deriving DecidableEq, Repr

/-- Causes of a loss (R159). -/
inductive LossCause
  | partialBeat | outOfOrder | badLength | queueFull
  deriving DecidableEq, Repr

/-- An ASSEMBLING assembly record: the words taken, the declared length and the expected next slot (R152). -/
structure Assembly where
  words : List Word
  length : Nat
  next : Fin 64
  deriving DecidableEq, Repr

/-- A command of the queue (R154); code and declared length stand in its first word. -/
structure Queued where
  seq : BitVec 16
  words : List Word
  deriving DecidableEq, Repr

/-- State of the Command Unit. -/
structure CommandUnit where
  running : Bool
  assembly : Option Assembly
  /-- The command queue, head first (R156). -/
  queue : List Queued
  seq : BitVec 16
  lastSeq : BitVec 16
  lastResult : Option Result
  refused : Nat
  lost : Nat
  lossCause : Option LossCause
  deriving DecidableEq, Repr

/-! ### Status and Event Unit (09) -/

/-- The fourteen event kinds, in their numbering (R172). -/
inductive EventKind
  | paneStale | cameraLate | corruptFrame | torn | scanStall | splitBurst | configMismatch | viewChange | lineChange
  | memoryError | clockLost | commandRefused | commandLost | bankFlipped
  deriving DecidableEq, Repr

/-- The record of one event kind (R173). -/
structure EventRec where
  pending : Bool
  count : Nat
  enabled : Bool
  urgent : Bool
  deriving DecidableEq, Repr

/-! ### The whole part -/

/-- The state of the part, with the queue of events that wait (the model's). -/
structure State where
  pending : List Instr
  /-- RESET_N is low. -/
  resetLow : Bool
  /-- PAGESEL1, PAGESEL0 as sampled at the last release (R149). -/
  strap : BitVec 2
  link : Link
  time : TimeBase
  cameras : Vector Camera 6
  scan : Scan
  panes : Vector (Option PaneRec) 16
  overlay : Overlay
  lines : Vector VehicleLine 8
  rate : Rate
  alert : Alert
  views : Vector View 8
  /-- The view stack, TOP FIRST; the bottom entry is the last (R137). -/
  stack : List StackEntry
  command : CommandUnit
  events : Vector EventRec 14
  /-- The model's own counter that free values are applied to (log 26). -/
  free : Nat
  deriving DecidableEq, Repr

/-- A line's configuration after reset (R125). -/
def LineConfig.reset : LineConfig :=
  { function := .input, pullUp := false, activeLow := false, debounce := 0, edge := .never }

/-- V0 after reset (R126, R148). -/
def View.base : View :=
  { definition := some { panes := [], layers := 0xFF, mask := 0, values := 0, linger := 0, chime := false },
    inMatch := false, trigger := .absent, command := false }

/-- V1 to V7 after reset (R148). -/
def View.undefined : View := { definition := none, inMatch := false, trigger := .absent, command := false }

/-- The part right after reset, as R19, R42, R64, R82, R106, R125, R148, R166 and R183 give it; the straps and pins are low and undriven (DESIGN CHOICE, log 11). -/
def State.reset : State :=
  { pending := [], resetLow := false, strap := 0,
    link := { sysPort := [], memPort := [], table := [], delivering := none, memOut := none, sysOut := none },
    time := { ms := 0, period := 0, lost := false, wasLost := false },
    cameras := Vector.replicate 6 { generation := 0, record := none },
    scan := { definition := none, slots := Vector.replicate 2 none, lastOpened := 1, frame := 0, lastShown := none,
              stallTimer := none, scanStall := false, staleShown := false },
    panes := Vector.replicate 16 none,
    overlay := { bankA := [], bankB := [], active := .a, hatch := Config.hatchReset, engine := .idle, flipWaiting := false },
    lines := Vector.replicate 8
      { config := LineConfig.reset, outside := { level := false, grip := .floating }, debounced := false, timer := none },
    rate := { source := none, threshold := 0, running := 0, last := 0, timer := none, k8 := false },
    alert := { chime := false, chimeTimer := none, phase := .idle, pulseTimer := none, silenced := false, record := [] },
    views := #v[View.base, View.undefined, View.undefined, View.undefined, View.undefined, View.undefined, View.undefined,
                View.undefined],
    stack := [{ view := 0, released := false, entered := 0 }],
    command := { running := false, assembly := none, queue := [], seq := 0, lastSeq := 0, lastResult := none, refused := 0,
                 lost := 0, lossCause := none },
    events := Vector.replicate 14 { pending := false, count := 0, enabled := false, urgent := false },
    free := 0 }

end Sys2Proof.Machine
end

