-- ==== Sys2Proof/Machine/Ops.lean ====
section
/-! DEFINITION. The named updates of State, one per block, and the operations every block shares: vectors, timers, counters that saturate, link addresses. -/

namespace Sys2Proof.Machine

/-- The state with another `link` block. -/
def State.withLink (s : State) (x : Link) : State := { s with link := x }

/-- The state with another `time` block. -/
def State.withTime (s : State) (x : TimeBase) : State := { s with time := x }

/-- The state with another `cameras` block. -/
def State.withCameras (s : State) (x : Vector Camera 6) : State := { s with cameras := x }

/-- The state with another `scan` block. -/
def State.withScan (s : State) (x : Scan) : State := { s with scan := x }

/-- The state with another `panes` block. -/
def State.withPanes (s : State) (x : Vector (Option PaneRec) 16) : State := { s with panes := x }

/-- The state with another `overlay` block. -/
def State.withOverlay (s : State) (x : Overlay) : State := { s with overlay := x }

/-- The state with another `lines` block. -/
def State.withLines (s : State) (x : Vector VehicleLine 8) : State := { s with lines := x }

/-- The state with another `rate` block. -/
def State.withRate (s : State) (x : Rate) : State := { s with rate := x }

/-- The state with another `alert` block. -/
def State.withAlert (s : State) (x : Alert) : State := { s with alert := x }

/-- The state with another `views` block. -/
def State.withViews (s : State) (x : Vector View 8) : State := { s with views := x }

/-- The state with another `stack` block. -/
def State.withStack (s : State) (x : List StackEntry) : State := { s with stack := x }

/-- The state with another `command` block. -/
def State.withCommand (s : State) (x : CommandUnit) : State := { s with command := x }

/-- The state with another `events` block. -/
def State.withEvents (s : State) (x : Vector EventRec 14) : State := { s with events := x }

/-! ### Vectors -/

/-- Every cell of a vector mapped (kernel-friendly). -/
def mapVector {α β : Type} {n : Nat} (f : α → β) (v : Vector α n) : Vector β n := Vector.ofFn fun i => f v[i]

/-- The cameras C0 to C5. -/
def allCameras : List (Fin 6) := [0, 1, 2, 3, 4, 5]

/-- The lines L0 to L7. -/
def allLines : List (Fin 8) := [0, 1, 2, 3, 4, 5, 6, 7]

/-- The views V1 to V7 in increasing priority. -/
def upViews : List (Fin 8) := [1, 2, 3, 4, 5, 6, 7]

/-- The views V7 to V1 in decreasing priority. -/
def downViews : List (Fin 8) := [7, 6, 5, 4, 3, 2, 1]

/-- The frame context slots. -/
def allSlots : List (Fin 2) := [0, 1]

/-! ### Cells of the tables -/

/-- A camera's record replaced. -/
def State.setCamera (s : State) (c : Fin 6) (x : Camera) : State := s.withCameras (s.cameras.set c x)

/-- A line replaced. -/
def State.setVehicleLine (s : State) (n : Fin 8) (x : VehicleLine) : State := s.withLines (s.lines.set n x)

/-- A view replaced. -/
def State.setViewRec (s : State) (v : Fin 8) (x : View) : State := s.withViews (s.views.set v x)

/-- A pane record replaced. -/
def State.setPaneRec (s : State) (p : Fin 16) (x : Option PaneRec) : State := s.withPanes (s.panes.set p x)

/-- A frame context slot replaced. -/
def State.setSlot (s : State) (k : Fin 2) (x : Option Context) : State :=
  s.withScan { s.scan with slots := s.scan.slots.set k x }

/-! ### Timers (R21, R24) -/

/-- The aim of a timer started now with `d` milliseconds (R21). -/
def State.aim (s : State) (d : Nat) : Millis := s.time.ms + BitVec.ofNat 32 d

/-- A timer is due when the counter has advanced to its aim and the timers do not stand still (R21, R24). -/
def State.due (s : State) (t : Timer) : Bool := !s.resetLow && !s.time.lost && t == some s.time.ms

/-! ### Counters -/

/-- A count increased by 1 that stays at `top`. -/
def saturate (top n : Nat) : Nat := if n < top then n + 1 else top

/-! ### Link addresses -/

/-- The byte address of a beat address as the link carries it (R185). -/
def byteAddr (a : BeatAddr) : Nat := a.toNat * 8

/-- The byte address of beat i of a burst, continuing at 0 past 0xFFFF_FFF8 (R1). -/
def beatAddrOf (a : BeatAddr) (i : Nat) : Nat := (byteAddr a + 8 * i) % 2 ^ 32

/-- The address bits 31..3 of a byte address (R185). -/
def linkAddr (n : Nat) : BeatAddr := BitVec.ofNat 29 (n / 8)

/-- Base of the command page for the sampled straps (R149). -/
def State.pageBase (s : State) : Nat :=
  match s.strap.toNat with
  | 0 => 0x0FFFF000
  | 1 => 0x1FFFF000
  | 2 => 0x3FFFF000
  | _ => 0x7FFFF000

end Sys2Proof.Machine
end

