-- ==== Sys2Proof/Machine/Flags.lean ====
section
/-! DEFINITION. The event latch, its acknowledgement and the interrupt lines (09), and the Alert Driver: causes, pulse phase, silence, alert output (06, section 6.4). -/

namespace Sys2Proof.Machine

/-! ### The event latch -/

/-- The number of an event kind (R172). -/
def EventKind.index : EventKind → Fin 14
  | .paneStale => 0
  | .cameraLate => 1
  | .corruptFrame => 2
  | .torn => 3
  | .scanStall => 4
  | .splitBurst => 5
  | .configMismatch => 6
  | .viewChange => 7
  | .lineChange => 8
  | .memoryError => 9
  | .clockLost => 10
  | .commandRefused => 11
  | .commandLost => 12
  | .bankFlipped => 13

/-- A record after an occurrence (R173). -/
def EventRec.occur (e : EventRec) : EventRec := { e with pending := true, count := saturate 255 e.count }

/-- An occurrence of a kind (R173). -/
def State.raise (s : State) (k : EventKind) : State :=
  s.withEvents (s.events.set k.index s.events[k.index].occur)

/-- `n` occurrences of a kind at one event, each counted (R173). -/
def State.raiseTimes (s : State) (k : EventKind) : Nat → State
  | 0 => s
  | n + 1 => (s.raise k).raiseTimes k n

/-- The condition of a level kind as it stands; an edge kind has none (R174). -/
def State.levelHolds (s : State) (i : Fin 14) : Bool :=
  (i = EventKind.paneStale.index && s.scan.staleShown) || (i = EventKind.scanStall.index && s.scan.scanStall)
    || (i = EventKind.clockLost.index && s.time.lost)

/-- The latch after the enables and levels are replaced (R175). -/
def State.setEventMasks (s : State) (enable urgent : BitVec 14) : State :=
  s.withEvents (Vector.ofFn fun i =>
    { s.events[i] with enabled := enable.getLsbD i.val, urgent := urgent.getLsbD i.val })

/-- A record acknowledged: cleared, or re-pended with count 1 while its level condition holds (R179, R180). -/
def EventRec.acknowledge (e : EventRec) (holds : Bool) : EventRec :=
  { e with pending := holds, count := if holds then 1 else 0 }

/-- The latch and the clock-was-lost flag after an acknowledgement of the kinds in the mask (R179, R180, R23). -/
def State.acknowledge (s : State) (mask : BitVec 14) : State :=
  let t := s.withEvents (Vector.ofFn fun i =>
    if mask.getLsbD i.val then s.events[i].acknowledge (s.levelHolds i) else s.events[i])
  if mask.getLsbD EventKind.clockLost.index.val && !s.time.lost then t.withTime { t.time with wasLost := false } else t

/-- The latch at its reset values; CLOCK_LOST is pending with count 1 while the clock is lost (R183, R184). -/
def State.resetEvents (s : State) : State :=
  s.withEvents (Vector.ofFn fun i =>
    let holds := i = EventKind.clockLost.index && s.time.lost
    { pending := holds, count := if holds then 1 else 0, enabled := false, urgent := false })

/-- Whether some enabled kind of a level is pending (R178). -/
def State.pendingOf (s : State) (urgent : Bool) : Bool :=
  s.events.toList.any fun e => e.pending && e.enabled && e.urgent == urgent

/-- INTU_N is asserted (R177, R178). -/
def State.intU (s : State) : Bool := !s.resetLow && s.pendingOf true

/-- INTN_N is asserted (R177, R178). -/
def State.intN (s : State) : Bool := !s.resetLow && s.pendingOf false

/-! ### The Alert Driver -/

/-- A cause is present (R117). -/
def State.causePresent (s : State) : Cause → Bool
  | .staleShown => s.scan.staleShown
  | .scanStall => s.scan.scanStall
  | .chime => s.alert.chime

/-- The causes present, in the order of `Cause`. -/
def State.presentCauses (s : State) : List Cause := [Cause.staleShown, .scanStall, .chime].filter s.causePresent

/-- The pattern of a cause is PULSE (R117). -/
def Cause.pulses : Cause → Bool
  | .staleShown => false
  | .scanStall | .chime => true

/-- Some PULSE cause other than `c` is present. -/
def State.otherPulse (s : State) (c : Cause) : Bool :=
  (c ≠ .scanStall && s.scan.scanStall) || (c ≠ .chime && s.alert.chime)

/-- The alert output is active (R120). -/
def State.alertActive (s : State) : Bool :=
  !s.alert.silenced && (s.scan.staleShown || ((s.scan.scanStall || s.alert.chime) && s.alert.phase == .on))

/-- The pulse phase at a PULSE cause becoming present while no other is (R119). -/
def State.startPulse (s : State) : State :=
  s.withAlert { s.alert with phase := .on, pulseTimer := some (s.aim Config.pulseHalf) }

/-- The pulse phase at the last PULSE cause becoming absent (R119). -/
def State.stopPulse (s : State) : State := s.withAlert { s.alert with phase := .idle, pulseTimer := none }

/-- Silence at a cause becoming present: one outside the record ends it (R122). -/
def Alert.causeArrives (a : Alert) (c : Cause) : Alert :=
  if a.silenced && !a.record.contains c then { a with silenced := false, record := [] } else a

/-- Silence at a cause becoming absent: it leaves the record, and an empty record ends the silence (R122). -/
def Alert.causeLeaves (a : Alert) (c : Cause) : Alert :=
  if a.silenced && a.record.contains c then
    let rest := a.record.filter (· ≠ c)
    { a with silenced := !rest.isEmpty, record := rest }
  else a

/-- The Alert Driver at a cause that has just become present (R119, R122). -/
def State.causeOn (s : State) (c : Cause) : State :=
  let t := if c.pulses && !s.otherPulse c then s.startPulse else s
  t.withAlert (t.alert.causeArrives c)

/-- The Alert Driver at a cause that has just become absent (R119, R122). -/
def State.causeOff (s : State) (c : Cause) : State :=
  let t := if c.pulses && !s.otherPulse c then s.stopPulse else s
  t.withAlert (t.alert.causeLeaves c)

/-- The STALE_SHOWN condition decided anew: a change is handed to the latch and the Alert Driver (R56, R117, R174). -/
def State.setStaleShown (s : State) (b : Bool) : State :=
  if b = s.scan.staleShown then s
  else
    let t := s.withScan { s.scan with staleShown := b }
    if b then (t.raise .paneStale).causeOn .staleShown else t.causeOff .staleShown

/-- The SCAN_STALL condition set: a change is handed to the latch and the Alert Driver (R60, R117, R174). -/
def State.setScanStall (s : State) (b : Bool) : State :=
  if b = s.scan.scanStall then s
  else
    let t := s.withScan { s.scan with scanStall := b }
    if b then (t.raise .scanStall).causeOn .scanStall else t.causeOff .scanStall

/-- A chime start: CHIME becomes present, or its timer is re-aimed (R118). -/
def State.startChime (s : State) : State :=
  let t := s.withAlert { s.alert with chime := true, chimeTimer := some (s.aim Config.chimeLength) }
  if s.alert.chime then t else t.causeOn .chime

/-- CHIME becomes absent at its timer's expiry (R118). -/
def State.endChime (s : State) : State :=
  let t := s.withAlert { s.alert with chime := false, chimeTimer := none }
  if s.alert.chime then t.causeOff .chime else t

/-- The pulse phase at the pulse timer's expiry (R119). -/
def Phase.toggled : Phase → Phase
  | .on => .off
  | .off => .on
  | .idle => .idle

/-- The pulse timer expires (R119). -/
def State.togglePulse (s : State) : State :=
  s.withAlert { s.alert with phase := s.alert.phase.toggled, pulseTimer := some (s.aim Config.pulseHalf) }

/-- The output silenced for the causes present; with none present it is not silenced (R121). -/
def State.silence (s : State) : State :=
  s.withAlert { s.alert with silenced := !s.presentCauses.isEmpty, record := s.presentCauses }

/-- The Alert Driver at its reset values (R125). -/
def State.resetAlert (s : State) : State := s.withAlert State.reset.alert

end Sys2Proof.Machine
end

