-- ==== Sys2Proof/Machine/Arbiter.lean ====
section
/-! DEFINITION. The View Arbiter (07): triggers and linger, holds, requests and releases, the view stack, truncation. The stack is held top first. -/

namespace Sys2Proof.Machine

/-! ### Condition bits (R111, R115) -/

/-- The condition bit of a line (R111). -/
def VehicleLine.bit (l : VehicleLine) : Bool := l.config.function = .input && (l.debounced != l.config.activeLow)

/-- The condition bits K0 to K8, bit n for Kn. -/
def State.conditions (s : State) : BitVec 9 :=
  BitVec.ofNat 9 ((allLines.map fun n => if s.lines[n].bit then 2 ^ n.val else 0).sum + if s.rate.k8 then 256 else 0)

/-! ### The stack and the request states (R136, R137) -/

/-- A trigger hold is present (R131, R132). -/
def TriggerHold.present : TriggerHold → Bool
  | .absent => false
  | .matching | .lingering _ => true

/-- A view is wanted (R135). -/
def View.wanted (v : View) : Bool := v.trigger.present || v.command

/-- A view has an entry on the stack. -/
def State.onStack (s : State) (v : Fin 8) : Bool := s.stack.any fun e => e.view == v

/-- The view on top of the stack; an empty stack, which R137 excludes, shows V0. -/
def State.topView (s : State) : Fin 8 := (s.stack.head?.map (·.view)).getD 0

/-- A view waits: wanted and not on the stack (R136). V0 never does. -/
def State.isPending (s : State) (v : Fin 8) : Bool := v ≠ 0 && s.views[v].wanted && !s.onStack v

/-- A view is INACTIVE (R136). -/
def State.isInactive (s : State) (v : Fin 8) : Bool := v ≠ 0 && !s.views[v].wanted && !s.onStack v

/-- A view pushed as the new top, time entered now (R138). -/
def State.push (s : State) (v : Fin 8) : State :=
  s.withStack ({ view := v, released := false, entered := s.time.ms } :: s.stack)

/-- The cascade over released entries at the top (R141). -/
def cascade : List StackEntry → List StackEntry
  | [] => []
  | e :: rest => if e.released then cascade rest else e :: rest

/-- A PENDING view above the top is pushed (R142). -/
def State.admitOne (s : State) (v : Fin 8) : State := if s.isPending v && s.topView < v then s.push v else s

/-- Admission: the PENDING views above the top, pushed in increasing priority (R142). -/
def State.admitPending (s : State) : State := upViews.foldl State.admitOne s

/-- A pop of the top with its cascade and admission (R141, R142). -/
def State.popTop (s : State) : State := (s.withStack (cascade s.stack.tail)).admitPending

/-- The stack with the mark of a view's entry as given (R139, R140). -/
def markEntry (v : Fin 8) (released : Bool) (st : List StackEntry) : List StackEntry :=
  st.map fun e => if e.view = v then { e with released := released } else e

/-- A request taken by the stack: unmarked, pushed, or left PENDING (R138, R139). -/
def State.requestView (s : State) (v : Fin 8) : State :=
  if s.onStack v then s.withStack (markEntry v false s.stack)
  else if s.topView < v then s.push v
  else s

/-- A release taken by the stack: popped, marked, or no longer PENDING (R140). Where R145 gives two events one stack in either order and R140 and R142 do not, these are followed in the order of the events (log 28). -/
def State.releaseView (s : State) (v : Fin 8) : State :=
  if s.onStack v then
    if s.topView = v then s.popTop else s.withStack (markEntry v true s.stack)
  else s

/-! ### Triggers and holds (R130 to R135) -/

/-- A definition's trigger matches the condition bits; a mask of 0 never does (R130). -/
def ViewDef.hits (d : ViewDef) (k : BitVec 9) : Bool := d.mask ≠ 0 && (k ^^^ d.values) &&& d.mask = 0

/-- A view V1 to V7 matches (R130). -/
def State.matchesNow (s : State) (v : Fin 8) : Bool :=
  v ≠ 0 && match s.views[v].definition with
    | some d => d.hits s.conditions
    | none => false

/-- A view's trigger hold replaced; the view is requested or released when that changes whether it is wanted (R135). -/
def State.setTrigger (s : State) (v : Fin 8) (h : TriggerHold) : State :=
  let x := s.views[v]
  let y := { x with trigger := h }
  let t := s.setViewRec v y
  if y.wanted && !x.wanted then t.requestView v
  else if x.wanted && !y.wanted then t.releaseView v
  else t

/-- A view's command hold replaced, with the request or release that follows (R133 to R135). -/
def State.setCommandHold (s : State) (v : Fin 8) (b : Bool) : State :=
  let x := s.views[v]
  let y := { x with command := b }
  let t := s.setViewRec v y
  if y.wanted && !x.wanted then t.requestView v
  else if x.wanted && !y.wanted then t.releaseView v
  else t

/-- An entry into match: the hold stands as matching (R131). -/
def State.enterMatch (s : State) (v : Fin 8) : State := s.setTrigger v .matching

/-- The hold after an end of match: ended with a linger of 0, else lingering; an absent hold stays absent (R132). -/
def State.lingerHold (s : State) (v : Fin 8) : TriggerHold :=
  match s.views[v].trigger, s.views[v].definition with
  | .matching, some d => if d.linger = 0 then .absent else .lingering (s.aim (d.linger * 100))
  | .matching, none => .absent
  | h, _ => h

/-- An end of match (R132). -/
def State.endMatch (s : State) (v : Fin 8) : State := s.setTrigger v (s.lingerHold v)

/-- The recorded match state of a view replaced (R130). -/
def State.recordMatch (s : State) (v : Fin 8) (b : Bool) : State := s.setViewRec v { s.views[v] with inMatch := b }

/-- The end of match of one view at a condition change, when there is one (R130, R132). With a linger of 0 the hold ends here, at the view's own turn among the releases of the event: until then a lower PENDING view counts as wanted, and a pop of a higher one may admit it (log 30). -/
def State.endStep (s : State) (v : Fin 8) : State :=
  if s.views[v].inMatch && !s.matchesNow v then (s.recordMatch v false).endMatch v else s

/-- The entry into match of one view at a condition change, when there is one (R130, R131). -/
def State.entryStep (s : State) (v : Fin 8) : State :=
  if !s.views[v].inMatch && s.matchesNow v then (s.recordMatch v true).enterMatch v else s

/-- A condition bit change at the arbiter: every match decided afresh, the releases in decreasing priority, then the requests in increasing priority (R130, R135), each hold ending or rising at its view's turn (log 30). -/
def State.conditionChange (s : State) : State := upViews.foldl State.entryStep (downViews.foldl State.endStep s)

/-- A change of the condition bits from `old` is handed to the arbiter; no change is not (R111). -/
def State.handOn (s : State) (old : BitVec 9) : State := if s.conditions = old then s else s.conditionChange

/-- The linger timer of a view expires: its trigger hold ends (R132). -/
def State.endLinger (s : State) (v : Fin 8) : State := s.setTrigger v .absent

/-! ### Truncation (R143) -/

/-- A view whose holds are cleared; its match state is kept. -/
def View.dropHolds (v : View) : View := { v with trigger := .absent, command := false }

/-- The view stack truncated to its oldest `n` entries (R143). -/
def State.truncate (s : State) (n : Nat) : State :=
  let removed := s.stack.take (s.stack.length - n)
  let dropped := fun v : Fin 8 => removed.any (fun e => e.view == v) || s.isPending v
  let t := s.withViews (Vector.ofFn fun v => if dropped v then s.views[v].dropHolds else s.views[v])
  (t.withStack (cascade (s.stack.drop (s.stack.length - n)))).admitPending

/-! ### Reset values (R148) -/

/-- The arbiter at its reset values, V0's time entered now. -/
def State.resetArbiter (s : State) : State :=
  (s.withViews State.reset.views).withStack [{ view := 0, released := false, entered := s.time.ms }]

end Sys2Proof.Machine
end

