-- ==== Sys2Proof/Machine/Windows.lean ====
section
/-! DEFINITION. The windows the Link Forwarder classifies against, the class of a beat and of a read (01, section 1.2), and the overlap check of window definitions (R5). -/

namespace Sys2Proof.Machine

/-- An address range [first, last) of byte addresses. -/
structure Extent where
  first : Nat
  last : Nat
  deriving DecidableEq, Repr

/-- A byte address lies in an extent. -/
def Extent.holds (e : Extent) (a : Nat) : Bool := e.first ≤ a && a < e.last

/-- Two extents share a byte address (R5). -/
def Extent.overlaps (e f : Extent) : Bool :=
  e.first < e.last && f.first < f.last && e.first < f.last && f.first < e.last

/-- An extent passes address 0xFFFF_FFFF (R5). -/
def Extent.wraps (e : Extent) : Bool := 2 ^ 32 < e.last

/-- The command page (R4, R149). -/
def State.pageExtent (s : State) : Extent := ⟨s.pageBase, s.pageBase + 0x1000⟩

/-- The command slots (R4, R150). -/
def State.slotExtent (s : State) : Extent := ⟨s.pageBase, s.pageBase + 0x200⟩

/-- The status area (R4, R169). -/
def State.statusExtent (s : State) : Extent := ⟨s.pageBase + 0x200, s.pageBase + 0x400⟩

/-- The extent of a scan window (R4, R43). -/
def ScanDef.extent (d : ScanDef) : Extent := ⟨d.base, d.base + d.stride * d.height⟩

/-- The extent of a capture window (R4, R25). -/
def CaptureDef.extent (d : CaptureDef) : Extent := ⟨d.base, d.base + d.ring * d.spacing⟩

/-- The capture window of a camera, when present (R4). -/
def State.captureExtent (s : State) (c : Fin 6) : Option Extent := s.cameras[c].record.map (·.geo.extent)

/-- The scan window, when present (R4). -/
def State.scanExtent (s : State) : Option Extent := s.scan.definition.map (·.extent)

/-- The class of a beat (R4). -/
inductive BeatClass
  | slot | status | page | scan
  | capture (c : Fin 6)
  | outside
  deriving DecidableEq, Repr

/-- An optional extent holds an address. -/
def optHolds (e : Option Extent) (a : Nat) : Bool :=
  match e with
  | some x => x.holds a
  | none => false

/-- The class of a beat by its byte address (R4). -/
def State.classify (s : State) (a : Nat) : BeatClass :=
  if s.slotExtent.holds a then .slot
  else if s.statusExtent.holds a then .status
  else if s.pageExtent.holds a then .page
  else if optHolds s.scanExtent a then .scan
  else match allCameras.find? fun c => optHolds (s.captureExtent c) a with
    | some c => .capture c
    | none => .outside

/-- The byte addresses of a burst's beats in beat order (R1). -/
def burst (a : BeatAddr) (n : Nat) : List Nat := (List.range n).map (beatAddrOf a)

/-- Beat count of a read (R1, R185). -/
def readCount (r : ReadReq) : Nat := r.beats.toNat + 1

/-- The request class of a read (R6). -/
def State.readClass (s : State) (r : ReadReq) : ReadClass :=
  if (burst r.addr (readCount r)).any fun a => s.classify a = .status then .status
  else if s.command.running && (s.scan.definition.map (·.tag)) = some r.tag && s.classify (byteAddr r.addr) = .scan then .scan
  else .plain

/-- A window's extent overlaps an optional one (R5). -/
def optOverlaps (e : Extent) (f : Option Extent) : Bool :=
  match f with
  | some x => e.overlaps x
  | none => false

/-- A new scan window overlaps the command page or a defined camera's window (R5, R43). -/
def State.scanOverlaps (s : State) (e : Extent) : Bool :=
  e.overlaps s.pageExtent || allCameras.any fun c => optOverlaps e (s.captureExtent c)

/-- A new capture window of camera c overlaps the command page, the scan window or another defined camera's window (R5, R25). -/
def State.captureOverlaps (s : State) (c : Fin 6) (e : Extent) : Bool :=
  e.overlaps s.pageExtent || optOverlaps e s.scanExtent
    || allCameras.any fun d => d ≠ c && optOverlaps e (s.captureExtent d)

end Sys2Proof.Machine
end

