-- ==== Sys2Proof/Machine/Capture.lean ====
section
/-! DEFINITION. The Capture Monitor (02): the placing of beats, the buffer state machine, the newest complete buffer, the camera state, the locked-buffer check, redefinition and clearing of a camera. -/

namespace Sys2Proof.Machine

/-! ### Placing a beat (R28) -/

/-- The kinds of beat of section 2.5; `ignored`: stride padding or spacing slack (R28). -/
inductive BeatKind
  | frameFirst | ordinary | final | foreign | ignored
  deriving DecidableEq, Repr

/-- The kind of a beat at offset `o` of a buffer, written by a tag (R28, section 2.5). -/
def CaptureDef.kindAt (d : CaptureDef) (tag : Tag) (o : Nat) : BeatKind :=
  let line := o / d.stride
  let column := o % d.stride / 4
  if d.height ≤ line || d.width ≤ column then .ignored
  else if tag ≠ d.owner then .foreign
  else if line = 0 && column = 0 then .frameFirst
  else if line = d.height - 1 && column = d.width - 2 then .final
  else .ordinary

/-- Buffer index of a beat address in the window (R28). -/
def CaptureDef.bufferAt (d : CaptureDef) (a : Nat) : Nat := (a - d.base) / d.spacing

/-- Kind of a beat address in the window (R28). -/
def CaptureDef.kindOf (d : CaptureDef) (tag : Tag) (a : Nat) : BeatKind := d.kindAt tag ((a - d.base) % d.spacing)

/-- Base address of a buffer's frame (R28). -/
def CaptureDef.frameBase (d : CaptureDef) (k : Nat) : Nat := d.base + k * d.spacing

/-- Expected beat count of a frame (R28). -/
def CaptureDef.expected (d : CaptureDef) : Nat := d.height * d.width / 2

/-! ### The buffer state machine (R30 to R34) -/

/-- The sequence number after one; 0 is not given to a frame (R29). -/
def nextSequence (q : BitVec 32) : BitVec 32 := if q = 0xFFFFFFFF then 1 else q + 1

/-- A buffer is COMPLETE. -/
def BufferRec.isComplete : BufferRec → Bool
  | .complete _ _ => true
  | .empty | .filling _ _ | .corrupt _ _ => false

/-- A buffer's record by index; a ring has no buffer there otherwise. -/
def CaptureRec.buffer (r : CaptureRec) (k : Nat) : BufferRec := r.buffers.getD k .empty

/-- The index of the FILLING buffer other than k, with its sequence number (R29, R30). -/
def otherFilling (k : Nat) : Nat → List BufferRec → Option (Nat × BitVec 32)
  | _, [] => none
  | i, b :: rest =>
    match b with
    | .filling q _ => if i = k then otherFilling k (i + 1) rest else some (i, q)
    | .empty | .complete _ _ | .corrupt _ _ => otherFilling k (i + 1) rest

/-- What a beat does to a capture record: the record, the corruption raised if any, and whether the beat goes to the locked-buffer check. -/
structure BeatEffect where
  record : CaptureRec
  corruption : Option Corruption
  check : Bool
  deriving DecidableEq, Repr

/-- A record with the beat's change of buffer k. -/
def CaptureRec.setBuffer (r : CaptureRec) (k : Nat) (b : BufferRec) : CaptureRec := { r with buffers := r.buffers.set k b }

/-- A frame-first beat of the owner tag in buffer k (R30). -/
def CaptureRec.frameFirst (r : CaptureRec) (k : Nat) : BeatEffect :=
  let q := r.nextSeq
  let start : CaptureRec → CaptureRec := fun x =>
    { x with buffers := x.buffers.set k (.filling q 1), nextSeq := nextSequence q }
  match otherFilling k 0 r.buffers with
  | some (j, p) => { record := start (r.setBuffer j (.corrupt p .abandoned)),
                     corruption := some ⟨j, p, .abandoned⟩, check := true }
  | none =>
    match r.buffer k with
    | .filling p _ => { record := start r, corruption := some ⟨k, p, .abandoned⟩, check := true }
    | .empty | .complete _ _ | .corrupt _ _ => { record := start r, corruption := none, check := true }

/-- A beat that damages buffer k: stray (R33) or foreign (R34). -/
def CaptureRec.damage (r : CaptureRec) (k : Nat) (cause : CorruptCause) : BeatEffect :=
  match r.buffer k with
  | .empty => { record := r.setBuffer k (.corrupt 0 cause), corruption := some ⟨k, 0, cause⟩, check := true }
  | .filling p _ => { record := r.setBuffer k (.corrupt p cause), corruption := some ⟨k, p, cause⟩, check := true }
  | .complete p _ => { record := r.setBuffer k (.corrupt p cause), corruption := some ⟨k, p, cause⟩, check := true }
  | .corrupt _ _ => { record := r, corruption := none, check := true }

/-- An ordinary beat of the owner tag in buffer k (R31, R33). -/
def CaptureRec.ordinary (r : CaptureRec) (k : Nat) : BeatEffect :=
  match r.buffer k with
  | .filling q n => { record := r.setBuffer k (.filling q (saturate Config.beatsMax n)), corruption := none, check := false }
  | .empty | .complete _ _ | .corrupt _ _ => r.damage k .stray

/-- The final beat of the owner tag in buffer k (R32, R33). -/
def CaptureRec.final (r : CaptureRec) (k : Nat) (now : Millis) : BeatEffect :=
  match r.buffer k with
  | .filling q n =>
    if r.geo.expected ≤ saturate Config.beatsMax n then
      { record := r.setBuffer k (.complete q now), corruption := none, check := false }
    else { record := r.setBuffer k (.corrupt q .short), corruption := some ⟨k, q, .short⟩, check := false }
  | .empty | .complete _ _ | .corrupt _ _ => r.damage k .stray

/-- The effect of a beat on the record (R30 to R34). -/
def CaptureRec.beat (r : CaptureRec) (k : Nat) (kind : BeatKind) (now : Millis) : BeatEffect :=
  match kind with
  | .frameFirst => r.frameFirst k
  | .ordinary => r.ordinary k
  | .final => r.final k now
  | .foreign => r.damage k .foreign
  | .ignored => { record := r, corruption := none, check := false }

/-! ### The newest complete buffer and the camera state (R36, R37) -/

/-- The COMPLETE buffer with the highest sequence number, in the order of R29. -/
def newestFrom (next : BitVec 32) : Nat → List BufferRec → Option (Nat × BitVec 32) → Option (Nat × BitVec 32)
  | _, [], best => best
  | i, b :: rest, best =>
    match b with
    | .complete q _ =>
      match best with
      | some (j, p) => newestFrom next (i + 1) rest (if (next - q).toNat < (next - p).toNat then some (i, q) else some (j, p))
      | none => newestFrom next (i + 1) rest (some (i, q))
    | .empty | .filling _ _ | .corrupt _ _ => newestFrom next (i + 1) rest best

/-- The newest complete buffer recomputed (R36). -/
def CaptureRec.findNewest (r : CaptureRec) : Option Nat := (newestFrom r.nextSeq 0 r.buffers none).map (·.1)

/-- Sequence number and completion time of a COMPLETE buffer. -/
def CaptureRec.completed (r : CaptureRec) (k : Nat) : Option (BitVec 32 × Millis) :=
  match r.buffer k with
  | .complete q t => some (q, t)
  | .empty | .filling _ _ | .corrupt _ _ => none

/-- The camera state and lateness timer decided anew from the newest complete buffer (R37). -/
def CaptureRec.decide (r : CaptureRec) (now : Millis) : CaptureRec :=
  match r.newest.bind r.completed with
  | none => { r with state := .noFrame, lateness := none }
  | some (_, t) =>
    if (now - t).toNat < r.geo.limit then { r with state := .fresh, lateness := some (t + BitVec.ofNat 32 r.geo.limit) }
    else { r with state := .late, lateness := none }

/-- The newest recomputed after a beat in buffer k of `old`, and the state decided anew when it changed (R36, R37). -/
def CaptureRec.refresh (old r : CaptureRec) (k : Nat) (now : Millis) : CaptureRec :=
  if (old.buffer k).isComplete = (r.buffer k).isComplete then r
  else
    let n := r.findNewest
    if n = old.newest then r else { r with newest := n }.decide now

/-! ### The locked-buffer check (R40, R53) -/

/-- A pane entry's lock names the camera, its current generation and the buffer, and was taken since the latest redefinition (R40). -/
def PaneEntry.lockedOn (e : PaneEntry) (c : Fin 6) (g : BitVec 16) (k : Nat) : Bool :=
  match e.lock with
  | some l => l.camera = c && l.generation = g && l.buffer = k && l.current
  | none => false

/-- A pane entry whose torn flag the check changes. -/
def PaneEntry.tears (e : PaneEntry) (c : Fin 6) (g : BitVec 16) (k : Nat) : Bool := e.lockedOn c g k && !e.torn

/-- A pane entry after the check (R53). -/
def PaneEntry.checked (c : Fin 6) (g : BitVec 16) (k : Nat) (e : PaneEntry) : PaneEntry :=
  if e.lockedOn c g k then { e with torn := true } else e

/-- The pane entries of a slot. -/
def slotPanes (x : Option Context) : List PaneEntry :=
  match x with
  | some c => c.panes
  | none => []

/-- The locked-buffer check over both slots: torn flags set, TORN raised once when one changed (R40, R53). -/
def State.lockedBufferCheck (s : State) (c : Fin 6) (k : Nat) : State :=
  let g := s.cameras[c].generation
  let tears := allSlots.any fun i => (slotPanes s.scan.slots[i]).any fun e => e.tears c g k
  let t := s.withScan { s.scan with
    slots := Vector.ofFn fun i => s.scan.slots[i].map fun x => { x with panes := x.panes.map (PaneEntry.checked c g k) } }
  if tears then t.raise .torn else t

/-! ### A capture beat (R28 to R40) -/

/-- The camera's record replaced; CAMERA_LATE on leaving FRESH (R39). -/
def State.updateRecord (s : State) (c : Fin 6) (old new : CaptureRec) : State :=
  let t := s.setCamera c { s.cameras[c] with record := some new }
  if old.state = .fresh && new.state ≠ .fresh then t.raise .cameraLate else t

/-- A write beat of a kind in buffer k of camera c (R30 to R40). -/
def State.captureBeat (s : State) (c : Fin 6) (k : Nat) (kind : BeatKind) : State :=
  match s.cameras[c].record with
  | none => s
  | some r =>
    let e := r.beat k kind s.time.ms
    let r' := { e.record with lastCorruption := if e.corruption.isSome then e.corruption else e.record.lastCorruption }
    let t := s.updateRecord c r (CaptureRec.refresh r r' k s.time.ms)
    let t := if e.corruption.isSome then t.raise .corruptFrame else t
    if e.check then t.lockedBufferCheck c k else t

/-- The lateness timer of a camera expires (R37, R39). -/
def State.expireLateness (s : State) (c : Fin 6) : State :=
  match s.cameras[c].record with
  | none => s
  | some r => s.updateRecord c r { r with state := if r.state = .fresh then .late else r.state, lateness := none }

/-! ### Redefinition (R26, R27, R42) -/

/-- The locks on a camera's buffers are superseded: no later write matches them (R40). -/
def PaneEntry.superseded (c : Fin 6) (e : PaneEntry) : PaneEntry :=
  { e with lock := e.lock.map fun l => if l.camera = c then { l with current := false } else l }

/-- The locks of the live contexts on a camera superseded (R26, R27, R40). -/
def State.supersede (s : State) (c : Fin 6) : State :=
  s.withScan { s.scan with
    slots := Vector.ofFn fun i => s.scan.slots[i].map fun x => { x with panes := x.panes.map (PaneEntry.superseded c) } }

/-- The record of a camera is FRESH. -/
def Camera.isFresh (x : Camera) : Bool :=
  match x.record with
  | some r => r.state = .fresh
  | none => false

/-- A fresh capture record for a definition (R26). -/
def CaptureRec.fresh (d : CaptureDef) : CaptureRec :=
  { geo := d, buffers := List.replicate d.ring .empty, nextSeq := 1, newest := none, state := .noFrame, lateness := none,
    lastCorruption := none }

/-- A camera's record replaced or removed, its generation incremented; CAMERA_LATE when it was FRESH (R26, R27, R39). -/
def State.redefine (s : State) (c : Fin 6) (r : Option CaptureRec) : State :=
  let x := s.cameras[c]
  let t := (s.setCamera c { generation := x.generation + 1, record := r }).supersede c
  if x.isFresh then t.raise .cameraLate else t

/-- Every camera cleared as by CLEAR_CAPTURE, with no CAMERA_LATE (R42). -/
def State.resetCameras (s : State) : State :=
  let t := s.withCameras (Vector.ofFn fun c => { generation := s.cameras[c].generation + 1, record := none })
  allCameras.foldl State.supersede t

end Sys2Proof.Machine
end

