-- ==== Sys2Proof/Machine/Overlay.lean ====
section
/-! DEFINITION. Spans and banks, the edit engine and the flip (05, sections 5.1 to 5.4). -/

namespace Sys2Proof.Machine

/-- The other bank. -/
def Bank.other : Bank → Bank
  | .a => .b
  | .b => .a

/-- The spans of a bank. -/
def Overlay.spans (o : Overlay) : Bank → List Span
  | .a => o.bankA
  | .b => o.bankB

/-- A bank's spans replaced. -/
def Overlay.setSpans (o : Overlay) (bank : Bank) (l : List Span) : Overlay :=
  match bank with
  | .a => { o with bankA := l }
  | .b => { o with bankB := l }

/-- The edit bank (R85). -/
def Overlay.editBank (o : Overlay) : Bank := o.active.other

/-- A bank is referenced: a live context has recorded it (R85). -/
def State.referenced (s : State) (bank : Bank) : Bool :=
  allSlots.any fun i => (s.scan.slots[i].map (·.bank)) = some bank

/-! ### Keys (R83, R84) -/

/-- The key order: line, then x0, then layer (R84). -/
def Span.before (s t : Span) : Bool :=
  s.line < t.line || (s.line = t.line && (s.x0 < t.x0 || (s.x0 = t.x0 && s.layer < t.layer)))

/-- A span has the key (R83). -/
def Span.hasKey (s : Span) (layer : Fin 8) (line x0 : Nat) : Bool := s.layer = layer && s.line = line && s.x0 = x0

/-- A span of the same layer and line that shares a column with columns x0 to x1 (R84). -/
def Span.clashes (s : Span) (layer : Fin 8) (line x0 x1 : Nat) : Bool :=
  s.layer = layer && s.line = line && s.x0 ≤ x1 && x0 ≤ s.x1

/-- A span joins a bank at the position of its key (R84). -/
def insertSpan (s : Span) : List Span → List Span
  | [] => [s]
  | t :: rest => if s.before t then s :: t :: rest else t :: insertSpan s rest

/-! ### The edit engine (R86 to R92) -/

/-- The content check of an edit against the target's spans; the result is the refusal (R89, R90). -/
def contentCheck (e : Edit) (bank : List Span) : Option Result :=
  match e with
  | .add s =>
    if bank.any fun t => t.hasKey s.layer s.line s.x0 then some .duplicate
    else if bank.any fun t => t.clashes s.layer s.line s.x0 s.x1 then some .overlap
    else if Config.lineSize ≤ bank.countP (fun t => t.line = s.line) then some .lineFull
    else if Config.bankSize ≤ bank.length then some .full
    else none
  | .remove layer line x0 => if bank.any fun t => t.hasKey layer line x0 then none else some .notFound
  | .clear => none
  | .copy => none

/-- The target's contents after an edit (R89 to R92). -/
def Overlay.edited (o : Overlay) (e : Edit) (target : Bank) : List Span :=
  match e with
  | .add s => insertSpan s (o.spans target)
  | .remove layer line x0 => (o.spans target).filter fun t => !t.hasKey layer line x0
  | .clear => []
  | .copy => o.spans target.other

/-- The engine's state replaced. -/
def State.setEngine (s : State) (g : Engine) : State := s.withOverlay { s.overlay with engine := g }

/-- The content checks of an edit whose target is not referenced: refused, or EDITING begins (R86 step 4, R87). -/
def State.beginEdit (s : State) (e : Edit) (target : Bank) : Option Result × State :=
  match contentCheck e (s.overlay.spans target) with
  | some r => (some r, s.setEngine .idle)
  | none => (none, s.setEngine (.editing e target))

/-- An edit whose argument checks passed (R86): WAITING while the target is referenced. -/
def State.startEdit (s : State) (e : Edit) : Option Result × State :=
  let target := s.overlay.editBank
  if s.referenced target then (none, s.setEngine (.waiting e target)) else s.beginEdit e target

/-- The end of an EDITING period: the target takes its new contents as one change (R88). -/
def State.finishEdit (s : State) (e : Edit) (target : Bank) : State :=
  (s.withOverlay (s.overlay.setSpans target (s.overlay.edited e target))).setEngine .idle

/-! ### The flip (R93 to R95) -/

/-- A flip takes effect (R95). -/
def State.flip (s : State) : State :=
  (s.withOverlay { s.overlay with active := s.overlay.active.other, flipWaiting := false }).raise .bankFlipped

/-- Some frame context is live. -/
def State.anyLive (s : State) : Bool := allSlots.any fun i => s.scan.slots[i].isSome

/-- FLIP_BANK starts: it waits in RUN with a live context and no scan stall, else it takes effect at once (R93). -/
def State.startFlip (s : State) : Option Result × State :=
  if s.command.running && s.anyLive && !s.scan.scanStall then
    (none, s.withOverlay { s.overlay with flipWaiting := true })
  else (some .ok, s.flip)

/-- The compositor at its SOFT_RESET values (R107). -/
def State.resetOverlay (s : State) : State := s.withOverlay State.reset.overlay

end Sys2Proof.Machine
end

