-- ==== Sys2Proof/Machine/Contexts.lean ====
section
/-! DEFINITION. Frame contexts (03): reference counts, retirement, the newest open context, the judgement of panes and the opening of a context at a frame start; entering and leaving RUN. -/

namespace Sys2Proof.Machine

/-- The other slot. -/
def otherSlot (k : Fin 2) : Fin 2 := 1 - k

/-- A context's reference count: the entries that name its slot (R54). -/
def State.refCount (s : State) (k : Fin 2) : Nat := s.link.table.countP fun e => e.context = some k

/-- A context newer than the one in slot k is live (R55). -/
def State.newerLive (s : State) (k : Fin 2) : Bool :=
  s.scan.lastOpened = otherSlot k && s.scan.slots[otherSlot k].isSome

/-- The retirement condition of the context in slot k (R55). -/
def State.retires (s : State) (k : Fin 2) : Bool :=
  s.scan.slots[k].isSome && s.refCount k = 0 && (s.newerLive k || !s.command.running)

/-- Every context that satisfies the retirement condition retires (R55). -/
def State.retireContexts (s : State) : State :=
  s.withScan { s.scan with slots := Vector.ofFn fun k => if s.retires k then none else s.scan.slots[k] }

/-- The context of a slot is live and open (R46). -/
def State.isOpen (s : State) (k : Fin 2) : Bool :=
  match s.scan.slots[k] with
  | some c => c.opened
  | none => false

/-- The slot of the newest open context (R46). -/
def State.newestOpen (s : State) : Option (Fin 2) :=
  if s.isOpen s.scan.lastOpened then some s.scan.lastOpened
  else if s.isOpen (otherSlot s.scan.lastOpened) then some (otherSlot s.scan.lastOpened)
  else none

/-- A free slot, slot 0 when both are free (R47). -/
def State.freeSlot (s : State) : Option (Fin 2) := allSlots.find? fun k => s.scan.slots[k].isNone

/-! ### Judging panes (R49 to R51) -/

/-- Two output rectangles share a pixel (R49, R127). -/
def PaneGeo.sharesPixel (g h : PaneGeo) : Bool :=
  g.left < h.left + h.width && h.left < g.left + g.width && g.top < h.top + h.height && h.top < g.top + g.height

/-- A pane's output rectangle lies in the picture area (R49). -/
def PaneGeo.fitsScan (g : PaneGeo) (width height : Nat) : Bool := g.left + g.width ≤ width && g.top + g.height ≤ height

/-- A pane's source rectangle fits a camera's frame (R50). -/
def PaneGeo.fitsCamera (g : PaneGeo) (d : CaptureDef) : Bool := g.srcX + g.width ≤ d.width && g.srcY + g.height ≤ d.height

/-- A lock on the newest complete buffer of a camera (R51). -/
def State.lockOn (s : State) (c : Fin 6) (d : CaptureDef) (k : Nat) : Lock :=
  { camera := c, generation := s.cameras[c].generation, buffer := k, base := d.frameBase k, stride := d.stride, current := true }

/-- A pane entered DARK (R50, R51). -/
def darkEntry (p : Fin 16) (g : PaneGeo) (mismatch : Bool) : PaneEntry :=
  { pane := p, geo := g, judgement := .dark, lock := none, torn := false, mismatch := mismatch }

/-- A pane entered LIVE or STALE with its lock (R51). -/
def lockedEntry (p : Fin 16) (g : PaneGeo) (j : Judgement) (l : Lock) : PaneEntry :=
  { pane := p, geo := g, judgement := j, lock := some l, torn := false, mismatch := false }

/-- The judgement of a pane whose camera and source rectangle fit (R51). -/
def State.judgeCamera (s : State) (p : Fin 16) (g : PaneGeo) (c : Fin 6) (r : CaptureRec) : PaneEntry :=
  match r.state, r.newest with
  | .noFrame, _ => darkEntry p g false
  | .late, some k => lockedEntry p g .stale (s.lockOn c r.geo k)
  | .fresh, some k => lockedEntry p g (if s.time.lost then .stale else .live) (s.lockOn c r.geo k)
  | _, none => darkEntry p g false

/-- The entry of a pane, or none when it is omitted (R49 to R51). -/
def State.judgePane (s : State) (d : ScanDef) (entered : List PaneEntry) (p : Fin 16) : Option PaneEntry :=
  match s.panes[p] with
  | none => none
  | some x =>
    if !x.geo.fitsScan d.width d.height || entered.any (fun e => e.geo.sharesPixel x.geo) then none
    else match s.cameras[x.camera].record with
      | none => some (darkEntry p x.geo true)
      | some r => if x.geo.fitsCamera r.geo then some (s.judgeCamera p x.geo x.camera r) else some (darkEntry p x.geo true)

/-- The pane entries of a view's pane list, in order (R49). -/
def State.judgePanes (s : State) (d : ScanDef) : List (Fin 16) → List PaneEntry → List PaneEntry
  | [], entered => entered
  | p :: rest, entered =>
    match s.judgePane d entered p with
    | some e => s.judgePanes d rest (entered ++ [e])
    | none => s.judgePanes d rest entered

/-- The occurrences of CONFIG_MISMATCH: panes omitted and panes entered with mismatch (R49, R50). -/
def mismatches (panes : List (Fin 16)) (entries : List PaneEntry) : Nat :=
  (panes.length - entries.length) + entries.countP (·.mismatch)

/-- A pane entry is STALE or DARK (R56). -/
def PaneEntry.hatched (e : PaneEntry) : Bool := e.judgement ≠ .live

/-! ### Opening a context (R47) -/

/-- The definition of a view; an undefined view, which the stack never holds, shows nothing. -/
def State.viewDef (s : State) (v : Fin 8) : ViewDef :=
  s.views[v].definition.getD { panes := [], layers := 0, mask := 0, values := 0, linger := 0, chime := false }

/-- Step 8: VIEW_CHANGE and the chime start (R57, R58). -/
def State.showView (s : State) (v : Fin 8) : State :=
  if s.scan.lastShown = some v then s
  else
    let t := (s.withScan { s.scan with lastShown := some v }).raise .viewChange
    if (t.viewDef v).chime then t.startChime else t

/-- The end of SCAN_STALL and the chime start at one frame start; when both change the pulse causes, their order is a free value (R58, R60; log 5). -/
def State.showAndUnstall (s : State) (v : Fin 8) : State :=
  if s.scan.scanStall && s.scan.lastShown ≠ some v && (s.viewDef v).chime && !s.alert.chime then
    let t := { s with free := s.free + 1 }
    if Config.stallEndsFirst s.free then (t.setScanStall false).showView v else (t.showView v).setScanStall false
  else (s.showView v).setScanStall false

/-- The context opened in a slot, its panes judged and its predecessors retired as steps 3 to 8 of R47 say; the scan stall timer restarts (R59). -/
def State.openContext (s : State) (d : ScanDef) (k : Fin 2) : State :=
  let v := s.topView
  let entries := s.judgePanes d (s.viewDef v).panes []
  let c : Context :=
    { opened := true, frame := s.scan.frame, start := s.time.ms, base := d.base, stride := d.stride, width := d.width,
      height := d.height, view := v, mask := (s.viewDef v).layers, bank := s.overlay.active, hatch := s.overlay.hatch,
      panes := entries }
  let t := s.raiseTimes .configMismatch (mismatches (s.viewDef v).panes entries)
  let t := t.withScan { t.scan with slots := t.scan.slots.set k (some c), lastOpened := k,
                                    stallTimer := some (t.aim d.limit) }
  let t := t.retireContexts
  let t := t.showAndUnstall v
  t.setStaleShown (entries.any PaneEntry.hatched)

/-! ### Entering and leaving RUN (R61, R62) -/

/-- The part enters RUN (R61, R162). -/
def State.enterRun (s : State) (d : ScanDef) : State :=
  let t := s.withCommand { s.command with running := true }
  t.withScan { t.scan with stallTimer := some (t.aim d.limit) }

/-- Every live context closed (R62). -/
def State.closeContexts (s : State) : State :=
  s.withScan { s.scan with slots := Vector.ofFn fun k => s.scan.slots[k].map fun c => { c with opened := false } }

/-- The part leaves RUN, when it is in RUN (R62, R163). -/
def State.leaveRun (s : State) : State :=
  if s.command.running then
    let t := s.withCommand { s.command with running := false }
    let t := t.withScan { t.scan with stallTimer := none }
    ((t.setScanStall false).setStaleShown false).closeContexts.retireContexts
  else s

/-- The tracker at its SOFT_RESET values, the part having left RUN (R64). -/
def State.resetScan (s : State) : State :=
  s.withScan { s.scan with definition := none, lastShown := none, stallTimer := none, scanStall := false, staleShown := false }

end Sys2Proof.Machine
end

