-- ==== Sys2Proof/Machine/Lines.lean ====
section
/-! DEFINITION. The Line Conditioner (06): drives, raw levels, debounce, condition bits, LINE_CHANGE, the rate input, SET_LINE and SET_RATE. -/

namespace Sys2Proof.Machine

/-! ### Pins (R109, R116) -/

/-- The level the part drives on a line, if it drives it (R116); nothing is driven while RESET_N is low (R109). -/
def State.drive (s : State) (n : Fin 8) : Option Bool :=
  if s.resetLow then none
  else match s.lines[n].config.function with
    | .input => none
    | .alert => some s.alertActive
    | .alertInv => some (!s.alertActive)
    | .lamp => some s.scan.staleShown

/-- The pull-up of a line is connected: an input with pull-up on, out of reset (R109). -/
def State.pullUpConnected (s : State) (n : Fin 8) : Bool :=
  !s.resetLow && s.lines[n].config.function = .input && s.lines[n].config.pullUp

/-- The level found on a pin, from what the outside presents, the part's drive and its pull-up (R109; log 10). -/
def pinLevel (o : Outside) (drive : Option Bool) (pullUp : Bool) : Bool :=
  match drive with
  | some d => if o.grip = .overpowering then o.level else d
  | none => if o.grip = .floating && pullUp then true else o.level

/-- The raw level of a line (R109). -/
def State.raw (s : State) (n : Fin 8) : Bool := pinLevel s.lines[n].outside (s.drive n) (s.pullUpConnected n)

/-! ### Debounced levels (R110 to R112, R115) -/

/-- The edge event mode selects a change of the condition bit to `up` (R112). -/
def EdgeMode.selects (m : EdgeMode) (up : Bool) : Bool :=
  match m with
  | .never => false
  | .rising => up
  | .falling => !up
  | .both => true

/-- The rate input at a rise of a line's debounced level (R115). -/
def Rate.rise (r : Rate) (n : Fin 8) : Rate :=
  if r.source = some n then { r with running := saturate 255 r.running } else r

/-- The debounced level of an input takes the level `b` and its timer stops: rises are counted, LINE_CHANGE is raised as the edge mode selects, and a changed condition bit is handed on (R110 to R112, R115). -/
def State.takeDebounced (s : State) (n : Fin 8) (b : Bool) : State :=
  let l := s.lines[n]
  let l' := { l with debounced := b, timer := none }
  let t := s.setVehicleLine n l'
  let t := if b && !l.debounced then t.withRate (t.rate.rise n) else t
  let t := if l'.bit ≠ l.bit && l.config.edge.selects l'.bit then t.raise .lineChange else t
  t.handOn s.conditions

/-- A change of an input's raw level (R110). An output's raw changes do not reach its debounced level. -/
def State.rawChanged (s : State) (n : Fin 8) : State :=
  let l := s.lines[n]
  if l.config.function ≠ .input then s
  else if s.raw n = l.debounced then s.setVehicleLine n { l with timer := none }
  else if l.config.debounce = 0 then s.takeDebounced n (s.raw n)
  else s.setVehicleLine n { l with timer := some (s.aim l.config.debounce) }

/-- A change of what the outside presents; only a change of the raw level is an event, and none is acted on while RESET_N is low (R109). -/
def State.setOutside (s : State) (n : Fin 8) (o : Outside) : State :=
  let t := s.setVehicleLine n { s.lines[n] with outside := o }
  if s.resetLow || t.raw n = s.raw n then t else t.rawChanged n

/-! ### SET_LINE (R113) -/

/-- The rate source becomes none: the window stops, the running count becomes 0, K8 becomes 0 and a change is handed on (R114). -/
def State.dropRateSource (s : State) : State :=
  (s.withRate { s.rate with source := none, timer := none, running := 0, k8 := false }).handOn s.conditions

/-- INPUT to INPUT: the raw and debounced levels are kept, the debounce starts again by the new setting (R113). -/
def State.reconfigureInput (s : State) (n : Fin 8) (c : LineConfig) : State :=
  let l := s.lines[n]
  let raw := s.raw n
  let l' : VehicleLine :=
    if raw = l.debounced then { l with config := c, timer := none }
    else if c.debounce = 0 then { l with config := c, debounced := raw, timer := none }
    else { l with config := c, timer := some (s.aim c.debounce) }
  let t := (s.setVehicleLine n l').handOn s.conditions
  -- A raw level that the pull-up's connection moves is a raw change after the completion (log 17).
  if t.raw n = raw then t else t.rawChanged n

/-- INPUT to an output function: the debounced level is held low, Kn becomes 0, and a rate source is dropped (R113). -/
def State.inputToOutput (s : State) (n : Fin 8) (c : LineConfig) : State :=
  let t := (s.setVehicleLine n { s.lines[n] with config := c, debounced := false, timer := none }).handOn s.conditions
  if t.rate.source = some n then t.dropRateSource else t

/-- An output function to INPUT: the debounced level takes the raw level as found (R113). -/
def State.outputToInput (s : State) (n : Fin 8) (c : LineConfig) : State :=
  let t := s.setVehicleLine n { s.lines[n] with config := c }
  (t.setVehicleLine n { t.lines[n] with debounced := t.raw n, timer := none }).handOn s.conditions

/-- The effect of a SET_LINE that completes OK (R113); repeating the configuration in force changes nothing (R108; log 15). -/
def State.configureLine (s : State) (n : Fin 8) (c : LineConfig) : State :=
  let old := s.lines[n].config
  if c = old then s
  else match old.function, c.function with
    | .input, .input => s.reconfigureInput n c
    | .input, _ => s.inputToOutput n c
    | _, .input => s.outputToInput n c
    | _, _ => s.setVehicleLine n { s.lines[n] with config := c }

/-! ### The rate input (R114, R115) -/

/-- The effect of a SET_RATE that completes OK (R114). -/
def State.configureRate (s : State) (source : Option (Fin 8)) (threshold : Nat) : State :=
  (s.withRate { source := source, threshold := threshold, running := 0, last := 0,
                timer := source.map fun _ => s.aim Config.rateWindow, k8 := false }).handOn s.conditions

/-- The rate window ends (R115). -/
def State.endRateWindow (s : State) : State :=
  let r := s.rate
  (s.withRate { r with last := r.running, k8 := r.running < r.threshold, running := 0,
                       timer := some (s.aim Config.rateWindow) }).handOn s.conditions

/-! ### Reset values (R125) -/

/-- The lines and the rate input at their reset values; the debounced levels take the raw levels then found. -/
def State.resetLines (s : State) : State :=
  let t := s.withLines (Vector.ofFn fun n => { s.lines[n] with config := LineConfig.reset, timer := none })
  (t.withLines (Vector.ofFn fun n => { t.lines[n] with debounced := t.raw n })).withRate State.reset.rate

end Sys2Proof.Machine
end

