-- ==== Sys2Proof/Machine/Operands.lean ====
section
/-! DEFINITION. The argument checks of the commands: each turns the fields of section 10.2 into the record its command defines, or refuses (none: BAD_ARGUMENT). -/

namespace Sys2Proof.Machine

/-- A number below n, if it is one. -/
def below (n v : Nat) : Option (Fin n) := if h : v < n then some ⟨v, h⟩ else none

/-- The checks that frame geometries share: width, height and stride (R25, R43). -/
def frameFits (width height stride : Nat) : Bool :=
  width % 2 = 0 && 64 ≤ width && width ≤ 2048 && 16 ≤ height && height ≤ 1080
    && stride % 8 = 0 && width * 4 ≤ stride && stride ≤ 16384

/-- The definition fields of SET_SCAN (R43). -/
def scanDefOf (a : Sys2Proof.ScanArgs) : ScanDef :=
  { tag := a.tag, base := a.base.toNat, stride := a.stride.toNat, width := a.width.toNat, height := a.height.toNat,
    limit := a.stall.toNat }

/-- The ranges of R43. -/
def ScanDef.accepted (d : ScanDef) : Bool :=
  d.base % 8 = 0 && frameFits d.width d.height d.stride && 10 ≤ d.limit && d.limit ≤ 1000

/-- SET_SCAN's arguments (R43). -/
def scanOperand (a : Sys2Proof.ScanArgs) : Option ScanDef := if (scanDefOf a).accepted then some (scanDefOf a) else none

/-- The definition fields of SET_CAPTURE (R25). -/
def captureDefOf (a : Sys2Proof.CaptureArgs) : CaptureDef :=
  { owner := a.owner, base := a.base.toNat, ring := a.ring.toNat, width := a.width.toNat, height := a.height.toNat,
    stride := a.stride.toNat, spacing := a.spacing.toNat, limit := a.fresh.toNat }

/-- The ranges of R25, the camera number apart. -/
def CaptureDef.accepted (d : CaptureDef) : Bool :=
  d.base % 4096 = 0 && 2 ≤ d.ring && d.ring ≤ 4 && frameFits d.width d.height d.stride
    && d.spacing % 4096 = 0 && d.stride * d.height ≤ d.spacing && 20 ≤ d.limit && d.limit ≤ 2000

/-- SET_CAPTURE's arguments (R25). -/
def captureOperand (a : Sys2Proof.CaptureArgs) : Option (Fin 6 × CaptureDef) :=
  if (captureDefOf a).accepted then (below 6 a.camera.toNat).map fun c => (c, captureDefOf a) else none

/-- The geometry of SET_PANE (R66). -/
def paneGeoOf (a : Sys2Proof.PaneArgs) : PaneGeo :=
  { left := a.left.toNat, top := a.top.toNat, width := a.width.toNat, height := a.height.toNat, srcX := a.srcX.toNat,
    srcY := a.srcY.toNat, mirror := a.mirror }

/-- The ranges of R65 and the limits of R66. -/
def PaneGeo.accepted (g : PaneGeo) : Bool :=
  g.left % 2 = 0 && g.left ≤ 2046 && g.top ≤ 1079 && g.width % 2 = 0 && 2 ≤ g.width && g.width ≤ 2048
    && 1 ≤ g.height && g.height ≤ 1080 && g.srcX % 2 = 0 && g.srcX ≤ 2046 && g.srcY ≤ 1079
    && g.left + g.width ≤ 2048 && g.srcX + g.width ≤ 2048 && g.top + g.height ≤ 1080 && g.srcY + g.height ≤ 1080

/-- SET_PANE's arguments (R66). -/
def paneOperand (a : Sys2Proof.PaneArgs) : Option (Fin 16 × PaneRec) :=
  match below 16 a.pane.toNat, below 6 a.camera.toNat with
  | some p, some c => if (paneGeoOf a).accepted then some (p, { camera := c, geo := paneGeoOf a }) else none
  | some _, none => none
  | none, _ => none

/-- The four ids of SET_VIEW's pane list; those past the count are not used (section 10.2). -/
def listedPanes (a : Sys2Proof.ViewArgs) : List (Fin 16) :=
  ([a.pane0.toFin, a.pane1.toFin, a.pane2.toFin, a.pane3.toFin]).take a.count.toNat

/-- No pane id appears twice (R127). -/
def distinctPanes : List (Fin 16) → Bool
  | [] => true
  | p :: rest => !rest.contains p && distinctPanes rest

/-- Row 3 of R127: the pane count and list. -/
def viewOperand (a : Sys2Proof.ViewArgs) : Option ViewDef :=
  if a.count.toNat ≤ 4 && distinctPanes (listedPanes a) then
    some { panes := listedPanes a, layers := a.layers, mask := a.mask, values := a.values, linger := a.linger.toNat,
           chime := a.chime }
  else none

/-- Span modes by their encoding; 3 is refused (section 10.2). -/
def spanModeOf (m : BitVec 2) : Option SpanMode :=
  match m.toNat with
  | 0 => some .solid
  | 1 => some .mix
  | 2 => some .shade
  | _ => none

/-- ADD_SPAN's arguments (R89). -/
def spanOperand (a : Sys2Proof.SpanArgs) : Option Span :=
  match spanModeOf a.mode with
  | none => none
  | some m =>
    if a.line.toNat ≤ 1079 && a.x0.toNat ≤ a.x1.toNat then
      some { layer := a.layer.toFin, line := a.line.toNat, x0 := a.x0.toNat, x1 := a.x1.toNat, colour := a.colour, mode := m }
    else none

/-- REMOVE_SPAN's arguments (R90). -/
def keyOperand (a : Sys2Proof.KeyArgs) : Option Edit :=
  if a.line.toNat ≤ 1079 then some (.remove a.layer.toFin a.line.toNat a.x0.toNat) else none

/-- Line functions by their encoding; 4 to 7 are refused (section 10.2). -/
def functionOf (f : BitVec 3) : Option LineFunction :=
  match f.toNat with
  | 0 => some .input
  | 1 => some .alert
  | 2 => some .alertInv
  | 3 => some .lamp
  | _ => none

/-- Edge event modes by their encoding (section 10.2). -/
def edgeOf (e : BitVec 2) : EdgeMode :=
  match e.toNat with
  | 0 => .never
  | 1 => .rising
  | 2 => .falling
  | _ => .both

/-- SET_LINE's arguments (R108). -/
def lineOperand (a : Sys2Proof.LineArgs) : Option (Fin 8 × LineConfig) :=
  match below 8 a.line.toNat, functionOf a.function with
  | some n, some f =>
    some (n, { function := f, pullUp := a.pullUp, activeLow := a.activeLow, debounce := a.debounce.toNat, edge := edgeOf a.edge })
  | some _, none => none
  | none, _ => none

/-- SET_RATE's source: a line of function INPUT, or none by the encoding 15 (R114). -/
def State.rateOperand (s : State) (source : BitVec 4) : Option (Option (Fin 8)) :=
  if source.toNat = 15 then some none
  else match below 8 source.toNat with
    | some n => if s.lines[n].config.function = .input then some (some n) else none
    | none => none

/-- A view V1 to V7 by number. -/
def upperView (v : BitVec 4) : Option (Fin 8) :=
  match below 8 v.toNat with
  | some w => if w = 0 then none else some w
  | none => none

end Sys2Proof.Machine
end

