-- ==== Sys2Proof/Machine/Commands.lean ====
section
/-! DEFINITION. What each command of the catalogue does when it starts (R158 step 3): a result, or none when it goes on as a timed command (R157), and the state. The completion record is the Command Unit's (CommandUnit.lean). -/

namespace Sys2Proof.Machine

/-- What a command's start gives: its result, or none while it goes on (R157), and the state. -/
abbrev Started := Option Result × State

/-- A command refused: it changes nothing (R158). -/
def State.refuse (s : State) (r : Result) : Started := (some r, s)

/-- A command carried out. -/
def State.done (s : State) : Started := (some .ok, s)

/-! ### Operating state (R161 to R164) -/

/-- RUN (R162). -/
def State.startRun (s : State) : Started :=
  if s.command.running then s.done
  else match s.scan.definition with
    | none => s.refuse .notReady
    | some d => (s.enterRun d).done

/-- BYPASS (R163). -/
def State.startBypass (s : State) : Started := s.leaveRun.done

/-- SOFT_RESET (R164, R165): leaving RUN, then every block to its reset values, the event latch last (R184). -/
def State.startSoftReset (s : State) : Started :=
  ((s.leaveRun.resetScan.resetCameras.withPanes State.reset.panes).resetArbiter.resetOverlay.resetLines.resetAlert.resetEvents).done

/-! ### Windows (R43, R44, R25 to R27) -/

/-- SET_SCAN: IN_USE, then the arguments, then the wrap and the overlap (R43, R5). -/
def State.startSetScan (s : State) (a : ScanArgs) : Started :=
  if s.command.running then s.refuse .inUse
  else match scanOperand a with
    | none => s.refuse .badArgument
    | some d =>
      if d.extent.wraps then s.refuse .badArgument
      else if s.scanOverlaps d.extent then s.refuse .overlap
      else (s.withScan { s.scan with definition := some d }).done

/-- SET_CAPTURE (R25, R26, R5). -/
def State.startSetCapture (s : State) (a : CaptureArgs) : Started :=
  match captureOperand a with
  | none => s.refuse .badArgument
  | some (c, d) =>
    if d.extent.wraps then s.refuse .badArgument
    else if s.captureOverlaps c d.extent then s.refuse .overlap
    else (s.redefine c (some (CaptureRec.fresh d))).done

/-- CLEAR_CAPTURE (R27). -/
def State.startClearCapture (s : State) (camera : BitVec 3) : Started :=
  match below 6 camera.toNat with
  | none => s.refuse .badArgument
  | some c => (s.redefine c none).done

/-! ### Panes (R66 to R68) -/

/-- SET_PANE (R66, R67). -/
def State.startSetPane (s : State) (a : PaneArgs) : Started :=
  match paneOperand a with
  | none => s.refuse .badArgument
  | some (p, x) => (s.setPaneRec p (some x)).done

/-- CLEAR_PANE (R68). -/
def State.startClearPane (s : State) (pane : BitVec 5) : Started :=
  match below 16 pane.toNat with
  | none => s.refuse .badArgument
  | some p => (s.setPaneRec p none).done

/-! ### Views (R127 to R129, R133, R134, R143) -/

/-- Two panes that are defined share a pixel of their output rectangles (R127 row 4). -/
def State.panesShare (s : State) (p q : Fin 16) : Bool :=
  match s.panes[p], s.panes[q] with
  | some x, some y => x.geo.sharesPixel y.geo
  | some _, none => false
  | none, _ => false

/-- Some two panes of a list share a pixel (R127 row 4). -/
def State.panesOverlap (s : State) : List (Fin 16) → Bool
  | [] => false
  | p :: rest => rest.any (s.panesShare p) || s.panesOverlap rest

/-- A view's definition replaced; for V1 to V7 the match is decided from the condition bits, without an entry (R128). -/
def State.defineView (s : State) (v : Fin 8) (d : ViewDef) : State :=
  let t := s.setViewRec v { s.views[v] with definition := some d }
  t.recordMatch v (t.matchesNow v)

/-- SET_VIEW (R127, R128). -/
def State.startSetView (s : State) (a : ViewArgs) : Started :=
  match below 8 a.view.toNat with
  | none => s.refuse .badArgument
  | some v =>
    if v ≠ 0 && !s.isInactive v then s.refuse .inUse
    else match viewOperand a with
      | none => s.refuse .badArgument
      | some d => if s.panesOverlap d.panes then s.refuse .overlap else (s.defineView v d).done

/-- CLEAR_VIEW (R129). -/
def State.startClearView (s : State) (view : BitVec 4) : Started :=
  match upperView view with
  | none => s.refuse .badArgument
  | some v =>
    if s.isInactive v then (s.setViewRec v { s.views[v] with definition := none, inMatch := false }).done
    else s.refuse .inUse

/-- REQUEST_VIEW (R133). -/
def State.startRequestView (s : State) (view : BitVec 4) : Started :=
  match upperView view with
  | none => s.refuse .badArgument
  | some v => if s.views[v].definition.isSome then (s.setCommandHold v true).done else s.refuse .notReady

/-- RELEASE_VIEW (R134). -/
def State.startReleaseView (s : State) (view : BitVec 4) : Started :=
  match upperView view with
  | none => s.refuse .badArgument
  | some v => (s.setCommandHold v false).done

/-- TRUNCATE_STACK (R143). -/
def State.startTruncateStack (s : State) (depth : BitVec 4) : Started :=
  if 1 ≤ depth.toNat && depth.toNat ≤ 8 then (s.truncate depth.toNat).done else s.refuse .badArgument

/-! ### Overlay (R86 to R97) -/

/-- ADD_SPAN (R86, R89). -/
def State.startAddSpan (s : State) (a : SpanArgs) : Started :=
  match spanOperand a with
  | none => s.refuse .badArgument
  | some x => s.startEdit (.add x)

/-- REMOVE_SPAN (R86, R90). -/
def State.startRemoveSpan (s : State) (a : KeyArgs) : Started :=
  match keyOperand a with
  | none => s.refuse .badArgument
  | some e => s.startEdit e

/-- CLEAR_BANK (R86, R91). -/
def State.startClearBank (s : State) : Started := s.startEdit .clear

/-- COPY_BANK (R86, R92). -/
def State.startCopyBank (s : State) : Started := s.startEdit .copy

/-- FLIP_BANK (R93, R95). -/
def State.startFlipBank (s : State) : Started := s.startFlip

/-- SET_HATCH (R97). -/
def State.startSetHatch (s : State) (colour : Colour) : Started :=
  (s.withOverlay { s.overlay with hatch := colour }).done

/-! ### Lines, rate, events and alert (R108, R113, R114, R175, R179, R121) -/

/-- SET_LINE (R108, R113). -/
def State.startSetLine (s : State) (a : LineArgs) : Started :=
  match lineOperand a with
  | none => s.refuse .badArgument
  | some (n, c) => (s.configureLine n c).done

/-- SET_RATE (R114). -/
def State.startSetRate (s : State) (source : BitVec 4) (threshold : BitVec 8) : Started :=
  match s.rateOperand source with
  | none => s.refuse .badArgument
  | some src => (s.configureRate src threshold.toNat).done

/-- SET_EVENTS (R175). -/
def State.startSetEvents (s : State) (enable urgent : BitVec 14) : Started := (s.setEventMasks enable urgent).done

/-- ACK_EVENTS (R179, R180, R23). -/
def State.startAckEvents (s : State) (mask : BitVec 14) : Started := (s.acknowledge mask).done

/-- SILENCE_ALERT (R121). -/
def State.startSilenceAlert (s : State) : Started := s.silence.done

/-! ### The catalogue (R168) -/

/-- The command's own checks and effect (R158 step 3). -/
def State.start (s : State) (c : Cmd) : Started :=
  match c with
  | .run => s.startRun
  | .bypass => s.startBypass
  | .softReset => s.startSoftReset
  | .setScan a => s.startSetScan a
  | .setCapture a => s.startSetCapture a
  | .clearCapture c => s.startClearCapture c
  | .setPane a => s.startSetPane a
  | .clearPane p => s.startClearPane p
  | .setView a => s.startSetView a
  | .clearView v => s.startClearView v
  | .requestView v => s.startRequestView v
  | .releaseView v => s.startReleaseView v
  | .truncateStack d => s.startTruncateStack d
  | .addSpan a => s.startAddSpan a
  | .removeSpan a => s.startRemoveSpan a
  | .clearBank => s.startClearBank
  | .copyBank => s.startCopyBank
  | .flipBank => s.startFlipBank
  | .setHatch c => s.startSetHatch c
  | .setLine a => s.startSetLine a
  | .setRate source threshold => s.startSetRate source threshold
  | .setEvents enable urgent => s.startSetEvents enable urgent
  | .ackEvents mask => s.startAckEvents mask
  | .silenceAlert => s.startSilenceAlert

end Sys2Proof.Machine
end

