-- ==== Sys2Proof/Machine/CommandUnit.lean ====
section
/-! DEFINITION. The Command Unit (08): the assembly record, the queue, the start and completion of commands, and the end of an edit's wait. -/

namespace Sys2Proof.Machine

/-! ### Completion and the chain (R156 to R159) -/

/-- The head of the queue completes with a result (R159). -/
def State.complete (s : State) (r : Result) : State :=
  match s.command.queue with
  | [] => s
  | q :: rest =>
    let t := s.withCommand { s.command with
      queue := rest, lastSeq := q.seq, lastResult := some r,
      refused := if r = .ok then s.command.refused else saturate 65535 s.command.refused }
    if r = .ok then t else t.raise .commandRefused

/-- A command starts: its framing is checked, then its own checks are made (R158). -/
def State.startWords (s : State) (ws : List Word) : Started :=
  match decodeCommand ws with
  | none => s.refuse .unknown
  | some c => if headerLength (wordAt ws 0) = c.length then s.start c else s.refuse .length

/-- The command at the head starts, and those behind it as long as each completes at once (R156); `n` bounds their number. -/
def State.runChain : Nat → State → State
  | 0, s => s
  | n + 1, s =>
    match s.command.queue with
    | [] => s
    | q :: _ =>
      match s.startWords q.words with
      | (none, t) => t
      | (some r, t) => (t.complete r).runChain n

/-- The command at the head of the queue starts (R156). -/
def State.startHead (s : State) : State := s.runChain s.command.queue.length

/-- The head completes, and the command behind it starts at the same event (R156). -/
def State.completeAndGo (s : State) (r : Result) : State := (s.complete r).startHead

/-! ### Losses and the queue (R154, R155, R159) -/

/-- A loss: counted, its cause recorded, COMMAND_LOST raised (R159). -/
def State.lose (s : State) (c : LossCause) : State :=
  (s.withCommand { s.command with lost := saturate 65535 s.command.lost, lossCause := some c }).raise .commandLost

/-- A complete command joins the queue with the next sequence number (R154). -/
def State.enqueue (s : State) (ws : List Word) : State :=
  let n := s.command.seq + 1
  s.withCommand { s.command with seq := n, queue := s.command.queue ++ [{ seq := n, words := ws }] }

/-- A complete command: lost to a full queue, or enqueued, and started when the queue was empty (R154, R155). -/
def State.commandComplete (s : State) (ws : List Word) : State :=
  if Config.queueSize ≤ s.command.queue.length then s.lose .queueFull
  else if s.command.queue.isEmpty then (s.enqueue ws).startHead
  else s.enqueue ws

/-! ### The assembly record (R151 to R153) -/

/-- The assembly record replaced. -/
def State.setAssembly (s : State) (a : Option Assembly) : State := s.withCommand { s.command with assembly := a }

/-- A command word taken as a header in slot `n`, the record being EMPTY (R152). -/
def State.takeHeader (s : State) (n : Fin 64) (w : Word) : State :=
  match (headerLength w).toNat with
  | 1 => s.commandComplete [w]
  | 2 => s.setAssembly (some { words := [w], length := 2, next := n + 1 })
  | 3 => s.setAssembly (some { words := [w], length := 3, next := n + 1 })
  | 4 => s.setAssembly (some { words := [w], length := 4, next := n + 1 })
  | _ => s.lose .badLength

/-- A command word taken at the expected next slot (R153, first row). -/
def State.takeContinuation (s : State) (a : Assembly) (n : Fin 64) (w : Word) : State :=
  let ws := a.words ++ [w]
  if ws.length = a.length then (s.setAssembly none).commandComplete ws
  else s.setAssembly (some { a with words := ws, next := n + 1 })

/-- A command word taken in slot `n` (R152, R153). -/
def State.takeWord (s : State) (n : Fin 64) (w : Word) : State :=
  match s.command.assembly with
  | none => s.takeHeader n w
  | some a => if n = a.next then s.takeContinuation a n w else ((s.setAssembly none).lose .outOfOrder).takeHeader n w

/-- A SLOT beat offered to the Command Unit (R150, R151). -/
def State.takeSlotBeat (s : State) (n : Fin 64) (b : WriteBeat) : State :=
  if b.enables = 0xFF then s.takeWord n b.data else (s.setAssembly none).lose .partialBeat

/-! ### The end of an edit's wait (R87) -/

/-- A WAITING edit whose target is no longer referenced makes its content checks: refused, with the commands behind it, or EDITING (R86 step 4, R87). -/
def State.settleWait (s : State) : State :=
  match s.overlay.engine with
  | .idle => s
  | .editing _ _ => s
  | .waiting e target =>
    if s.referenced target then s
    else match s.beginEdit e target with
      | (some r, t) => t.completeAndGo r
      | (none, t) => t

/-- The edit's completion event; without one in EDITING nothing happens (R88; log 27). -/
def State.completeEdit (s : State) : State :=
  match s.overlay.engine with
  | .idle => s
  | .waiting _ _ => s
  | .editing e target => (s.finishEdit e target).completeAndGo .ok

/-- A flip that waits takes effect and completes its command; the commands behind it start later (R94, R95, R47 step 2). -/
def State.takeFlip (s : State) : State := s.flip.complete .ok

end Sys2Proof.Machine
end

