-- ==== Sys2Proof/Machine/CommandRows.lean ====
section
/-! DEFINITION. The 25 command rows: one complete command handed to the Command Unit at this event, in the words of section 10.2 (R154, R156; log 1). -/

namespace Sys2Proof.Machine

/-- No command reaches the part: RESET_N is low (R3; log 12), or a held request stands before the command's words on the system port (R10; log 1). -/
def State.commandBlocked (s : State) : Bool := s.resetLow || !s.link.sysPort.isEmpty

/-- The words of a complete command reach the Command Unit: a declared length outside 1 to 4 is lost (R152; log 19), another is framed by it and complete (R154). A command that cannot reach the part changes nothing (R3, R10). The assembly record is left as it is (log 29). -/
def State.submit (s : State) (len : BitVec 3) (ws : List Word) : Host.Outcome State Fault Refusal :=
  .next (if s.commandBlocked then s else if framedLength len then s.commandComplete ws else s.lose .badLength)

/-- RUN (R162). -/
def execRun (len : BitVec 3) (s : State) : Host.Outcome State Fault Refusal :=
  s.submit len (encodeCommand len .run)

/-- BYPASS (R163). -/
def execBypass (len : BitVec 3) (s : State) : Host.Outcome State Fault Refusal :=
  s.submit len (encodeCommand len .bypass)

/-- SOFT_RESET (R164). -/
def execSoftReset (len : BitVec 3) (s : State) : Host.Outcome State Fault Refusal :=
  s.submit len (encodeCommand len .softReset)

/-- SET_SCAN (R43). -/
def execSetScan (len : BitVec 3) (args : ScanArgs) (s : State) : Host.Outcome State Fault Refusal :=
  s.submit len (encodeCommand len (.setScan args))

/-- SET_CAPTURE (R25). -/
def execSetCapture (len : BitVec 3) (args : CaptureArgs) (s : State) : Host.Outcome State Fault Refusal :=
  s.submit len (encodeCommand len (.setCapture args))

/-- CLEAR_CAPTURE (R27). -/
def execClearCapture (len : BitVec 3) (camera : BitVec 3) (s : State) : Host.Outcome State Fault Refusal :=
  s.submit len (encodeCommand len (.clearCapture camera))

/-- SET_PANE (R66). -/
def execSetPane (len : BitVec 3) (args : PaneArgs) (s : State) : Host.Outcome State Fault Refusal :=
  s.submit len (encodeCommand len (.setPane args))

/-- CLEAR_PANE (R68). -/
def execClearPane (len : BitVec 3) (pane : BitVec 5) (s : State) : Host.Outcome State Fault Refusal :=
  s.submit len (encodeCommand len (.clearPane pane))

/-- SET_VIEW (R127). -/
def execSetView (len : BitVec 3) (args : ViewArgs) (s : State) : Host.Outcome State Fault Refusal :=
  s.submit len (encodeCommand len (.setView args))

/-- CLEAR_VIEW (R129). -/
def execClearView (len : BitVec 3) (view : BitVec 4) (s : State) : Host.Outcome State Fault Refusal :=
  s.submit len (encodeCommand len (.clearView view))

/-- REQUEST_VIEW (R133). -/
def execRequestView (len : BitVec 3) (view : BitVec 4) (s : State) : Host.Outcome State Fault Refusal :=
  s.submit len (encodeCommand len (.requestView view))

/-- RELEASE_VIEW (R134). -/
def execReleaseView (len : BitVec 3) (view : BitVec 4) (s : State) : Host.Outcome State Fault Refusal :=
  s.submit len (encodeCommand len (.releaseView view))

/-- TRUNCATE_STACK (R143). -/
def execTruncateStack (len : BitVec 3) (depth : BitVec 4) (s : State) : Host.Outcome State Fault Refusal :=
  s.submit len (encodeCommand len (.truncateStack depth))

/-- ADD_SPAN (R89). -/
def execAddSpan (len : BitVec 3) (args : SpanArgs) (s : State) : Host.Outcome State Fault Refusal :=
  s.submit len (encodeCommand len (.addSpan args))

/-- REMOVE_SPAN (R90). -/
def execRemoveSpan (len : BitVec 3) (args : KeyArgs) (s : State) : Host.Outcome State Fault Refusal :=
  s.submit len (encodeCommand len (.removeSpan args))

/-- CLEAR_BANK (R91). -/
def execClearBank (len : BitVec 3) (s : State) : Host.Outcome State Fault Refusal :=
  s.submit len (encodeCommand len .clearBank)

/-- COPY_BANK (R92). -/
def execCopyBank (len : BitVec 3) (s : State) : Host.Outcome State Fault Refusal :=
  s.submit len (encodeCommand len .copyBank)

/-- FLIP_BANK (R93). -/
def execFlipBank (len : BitVec 3) (s : State) : Host.Outcome State Fault Refusal :=
  s.submit len (encodeCommand len .flipBank)

/-- SET_HATCH (R97). -/
def execSetHatch (len : BitVec 3) (colour : Colour) (s : State) : Host.Outcome State Fault Refusal :=
  s.submit len (encodeCommand len (.setHatch colour))

/-- SET_LINE (R108). -/
def execSetLine (len : BitVec 3) (args : LineArgs) (s : State) : Host.Outcome State Fault Refusal :=
  s.submit len (encodeCommand len (.setLine args))

/-- SET_RATE (R114). -/
def execSetRate (len : BitVec 3) (source : BitVec 4) (threshold : BitVec 8) (s : State) : Host.Outcome State Fault Refusal :=
  s.submit len (encodeCommand len (.setRate source threshold))

/-- SET_EVENTS (R175). -/
def execSetEvents (len : BitVec 3) (enable urgent : BitVec 14) (s : State) : Host.Outcome State Fault Refusal :=
  s.submit len (encodeCommand len (.setEvents enable urgent))

/-- ACK_EVENTS (R179). -/
def execAckEvents (len : BitVec 3) (mask : BitVec 14) (s : State) : Host.Outcome State Fault Refusal :=
  s.submit len (encodeCommand len (.ackEvents mask))

/-- SILENCE_ALERT (R121). -/
def execSilenceAlert (len : BitVec 3) (s : State) : Host.Outcome State Fault Refusal :=
  s.submit len (encodeCommand len .silenceAlert)

/-- The words of a command whose code and argument field 0 are given and whose continuations are zero (log 25). -/
def rawWords (len : BitVec 3) (code : BitVec 8) (args : BitVec 53) : List Word := frame len (header code len (put args 0)) []

/-- UNKNOWN_CODE_COMMAND (R158). -/
def execUnknownCodeCommand (len : BitVec 3) (code : BitVec 8) (args : BitVec 53) (s : State) : Host.Outcome State Fault Refusal :=
  s.submit len (rawWords len code args)

end Sys2Proof.Machine
end

