-- ==== Sys2Proof/Machine/Redirect.lean ====
section
/-! DEFINITION. The redirection decision of the Redirect Unit (04, section 4.2) and the mirrored response (section 4.3). -/

namespace Sys2Proof.Machine

/-- Scan coordinates of a beat. -/
structure Place where
  line : Nat
  column : Nat
  deriving DecidableEq, Repr

/-- The place of beat i of a burst in a context's scan coordinates; addresses past the window's end are not wrapped, so their line exceeds the height (R70, R99). -/
def Context.place (c : Context) (a : BeatAddr) (i : Nat) : Place :=
  let o := byteAddr a + 8 * i - c.base
  ⟨o / c.stride, o % c.stride / 4⟩

/-- The places of a burst's beats. -/
def Context.places (c : Context) (a : BeatAddr) (n : Nat) : List Place := (List.range n).map (c.place a)

/-- A beat lies in a pane's output rectangle (R70). -/
def PaneGeo.holdsBeat (g : PaneGeo) (p : Place) : Bool :=
  g.top ≤ p.line && p.line < g.top + g.height && g.left ≤ p.column && p.column + 1 < g.left + g.width

/-- A redirected pane: judged LIVE or STALE (R70). -/
def PaneEntry.redirected (e : PaneEntry) : Bool := e.judgement ≠ .dark

/-- The decision for a read named to a context: no redirection, a split read, or a new address with pane and mirror flag. -/
inductive Decision
  | plain
  | split
  | redirect (address : Nat) (r : Redirect)
  deriving DecidableEq, Repr

/-- The forwarded address of a redirected read of n beats whose first beat is at `p` (R72, R73). -/
def forwardedAddress (g : PaneGeo) (l : Lock) (p : Place) (n : Nat) : Nat :=
  let u := p.column - g.left
  let v := p.line - g.top
  let column := if g.mirror then g.srcX + g.width - u - 2 * n else g.srcX + u
  l.base + (g.srcY + v) * l.stride + column * 4

/-- All beats lie on one line and in one pane entry (R71). -/
def wholly (ps : List Place) (e : PaneEntry) : Bool :=
  ps.all fun p => e.geo.holdsBeat p && p.line == (ps.headD ⟨0, 0⟩).line

/-- The redirection decision of a read from its context alone (R69 to R76). -/
def Context.decide (c : Context) (a : BeatAddr) (n : Nat) : Decision :=
  let ps := c.places a n
  let panes := c.panes.filter PaneEntry.redirected
  match panes.find? (wholly ps) with
  | some e =>
    match e.lock with
    | some l => .redirect (forwardedAddress e.geo l (c.place a 0) n) ⟨e.pane, e.geo.mirror⟩
    | none => .plain
  | none => if ps.any fun p => panes.any fun e => e.geo.holdsBeat p then .split else .plain

/-! ### Pixels of a beat and the mirrored response (10.1, R77) -/

/-- The left pixel of a beat, bits 31..0 (R185). -/
def leftPixel (b : Beat) : Pixel := b.extractLsb' 0 32

/-- The right pixel of a beat, bits 63..32 (R185). -/
def rightPixel (b : Beat) : Pixel := b.extractLsb' 32 32

/-- A beat of two pixels (10.1). -/
def joinPixels (left right : Pixel) : Beat := right ++ left

/-- A beat with its two pixels exchanged. -/
def swapPixels (b : Beat) : Beat := joinPixels (rightPixel b) (leftPixel b)

/-- The pixels of a response in reversed order: beats reversed and swapped (R77). -/
def mirrorBeats (data : List Beat) : List Beat := (data.map swapPixels).reverse

end Sys2Proof.Machine
end

