-- ==== Sys2Proof/Machine/Compose.lean ====
section
/-! DEFINITION. Composition: spans of the visible layers in layer order, then the hatch (05, section 5.5). -/

namespace Sys2Proof.Machine

/-- A component of a pixel or colour of any width: 8 bits from bit `lo`, as a whole number (R101). -/
def component {w : Nat} (v : BitVec w) (lo : Nat) : Nat := (v.extractLsb' lo 8).toNat

/-- A pixel with its unused byte kept and each component of `p` and `c` combined by `f` (R101). -/
def combine (f : Nat → Nat → Nat) (p : Pixel) (c : Colour) : Pixel :=
  p.extractLsb' 24 8 ++ BitVec.ofNat 8 (f (component p 16) (component c 16)) ++ BitVec.ofNat 8 (f (component p 8) (component c 8))
    ++ BitVec.ofNat 8 (f (component p 0) (component c 0))

/-- The component a mode makes of pixel component p and colour component c (R101). -/
def SpanMode.apply (m : SpanMode) (p c : Nat) : Nat :=
  match m with
  | .solid => c
  | .mix => (p + c) / 2
  | .shade => p / 2

/-- A span covers a pixel (R83). -/
def Span.covers (s : Span) (line column : Nat) : Bool := s.line = line && s.x0 ≤ column && column ≤ s.x1

/-- The span of a layer that covers a pixel; R84 lets there be at most one (R100). -/
def layerSpan (bank : List Span) (layer : Fin 8) (line column : Nat) : Option Span :=
  bank.find? fun s => s.layer = layer && s.covers line column

/-- One layer applied to a pixel, when the mask includes it (R100). -/
def applyLayer (bank : List Span) (mask : BitVec 8) (line column : Nat) (p : Pixel) (layer : Fin 8) : Pixel :=
  if mask.getLsbD layer.val then
    match layerSpan bank layer line column with
    | some s => combine s.mode.apply p s.colour
    | none => p
  else p

/-- The overlay layers in increasing order. -/
def allLayers : List (Fin 8) := [0, 1, 2, 3, 4, 5, 6, 7]

/-- The visible spans applied to a pixel, layer 0 to layer 7 (R100). -/
def applySpans (bank : List Span) (mask : BitVec 8) (line column : Nat) (p : Pixel) : Pixel :=
  allLayers.foldl (applyLayer bank mask line column) p

/-- A pixel lies in an output rectangle (R65). -/
def PaneGeo.holdsPixel (g : PaneGeo) (line column : Nat) : Bool :=
  g.top ≤ line && line < g.top + g.height && g.left ≤ column && column < g.left + g.width

/-- A pixel is on the hatch pattern (R102). -/
def onHatch (line column : Nat) : Bool := (column + line) / 8 % 2 = 0

/-- The hatch mixed over a pixel in a STALE or DARK pane (R102). -/
def Context.applyHatch (c : Context) (line column : Nat) (p : Pixel) : Pixel :=
  if onHatch line column && c.panes.any fun e => e.hatched && e.geo.holdsPixel line column then
    combine SpanMode.mix.apply p c.hatch
  else p

/-- A pixel composed from a context and the spans its bank holds, when it lies in the picture area (R98, R99). -/
def Context.composePixel (c : Context) (bank : List Span) (line column : Nat) (p : Pixel) : Pixel :=
  if column < c.width && line < c.height then c.applyHatch line column (applySpans bank c.mask line column p) else p

/-- Beat i of a response composed at the scan coordinates of the address taken (R99). -/
def Context.composeBeat (c : Context) (bank : List Span) (a : BeatAddr) (i : Nat) (b : Beat) : Beat :=
  let p := c.place a i
  joinPixels (c.composePixel bank p.line p.column (leftPixel b)) (c.composePixel bank p.line (p.column + 1) (rightPixel b))

end Sys2Proof.Machine
end

