-- ==== Sys2Proof/Machine/Status.lean ====
section
/-! DEFINITION. The status words and the status area map (R169, R170, R189). -/

namespace Sys2Proof.Machine

/-! ### Encodings (section 10.4) -/

/-- A number as a field of `n` bits at bit `lo`. -/
def bitsAt (lo n v : Nat) : Nat := v % 2 ^ n * 2 ^ lo

/-- A flag at bit `lo`. -/
def flagAt (lo : Nat) (b : Bool) : Nat := if b then 2 ^ lo else 0

/-- A sum of fields as a status word; bits without a field read 0 (R189). -/
def statusOf (fields : List Nat) : Word := BitVec.ofNat 64 fields.sum

/-- Result codes (R158); 15 for none. -/
def resultCode : Option Result → Nat
  | none => 15
  | some .ok => 0
  | some .unknown => 1
  | some .badArgument => 2
  | some .notReady => 3
  | some .inUse => 4
  | some .overlap => 5
  | some .duplicate => 6
  | some .full => 7
  | some .lineFull => 8
  | some .notFound => 9
  | some .length => 10

/-- Loss causes. -/
def lossCode : Option LossCause → Nat
  | none => 0
  | some .partialBeat => 1
  | some .outOfOrder => 2
  | some .badLength => 3
  | some .queueFull => 4

/-- Corrupt causes. -/
def corruptCode : Option CorruptCause → Nat
  | none => 0
  | some .abandoned => 1
  | some .short => 2
  | some .stray => 3
  | some .foreign => 4

/-- Line functions. -/
def functionCode : LineFunction → Nat
  | .input => 0
  | .alert => 1
  | .alertInv => 2
  | .lamp => 3

/-- Pulse phases. -/
def phaseCode : Phase → Nat
  | .idle => 0
  | .on => 1
  | .off => 2

/-- Banks. -/
def bankCode : Bank → Nat
  | .a => 0
  | .b => 1

/-- Buffer states. -/
def bufferCode : BufferRec → Nat
  | .empty => 0
  | .filling _ _ => 1
  | .complete _ _ => 2
  | .corrupt _ _ => 3

/-- Camera states. -/
def cameraCode : CameraState → Nat
  | .noFrame => 0
  | .fresh => 1
  | .late => 2

/-- Judgements. -/
def judgementCode : Judgement → Nat
  | .live => 1
  | .stale => 2
  | .dark => 3

/-- Trigger holds. -/
def triggerCode : TriggerHold → Nat
  | .absent => 0
  | .matching => 1
  | .lingering _ => 2

/-- Edits carried by the engine. -/
def editCode : Edit → Nat
  | .add _ => 1
  | .remove _ _ _ => 2
  | .clear => 3
  | .copy => 4

/-! ### The words (section 10.3) -/

/-- 0x200 identity. -/
def State.identityWord (s : State) : Word :=
  statusOf [bitsAt 0 16 Config.partCode, bitsAt 16 8 Config.revision, bitsAt 24 2 s.strap.toNat]

/-- Live contexts (R63). -/
def State.liveCount (s : State) : Nat := allSlots.countP fun k => s.scan.slots[k].isSome

/-- 0x208 operating state. -/
def State.operatingWord (s : State) : Word :=
  statusOf [flagAt 0 s.command.running, bitsAt 8 6 s.link.table.length, bitsAt 16 2 s.liveCount]

/-- 0x210 counter. -/
def State.counterWord (s : State) : Word := statusOf [bitsAt 0 32 s.time.ms.toNat]

/-- 0x218 clock status. -/
def State.clockWord (s : State) : Word := statusOf [flagAt 0 s.time.lost, flagAt 1 s.time.wasLost]

/-- 0x220 command status. -/
def State.commandWord (s : State) : Word :=
  let c := s.command
  statusOf [bitsAt 0 16 c.seq.toNat, bitsAt 16 16 c.lastSeq.toNat, bitsAt 32 4 (resultCode c.lastResult),
    bitsAt 40 7 c.queue.length, flagAt 48 c.assembly.isSome, bitsAt 50 2 ((c.assembly.map (·.words.length)).getD 0)]

/-- 0x228 loss. -/
def State.lossWord (s : State) : Word :=
  statusOf [bitsAt 0 16 s.command.refused, bitsAt 16 16 s.command.lost, bitsAt 32 3 (lossCode s.command.lossCause)]

/-- A sum over the event kinds of `f` at each index. -/
def eventFields (s : State) (f : Fin 14 → EventRec → Nat) : List Nat :=
  ([0, 1, 2, 3, 4, 5, 6, 7, 8, 9, 10, 11, 12, 13] : List (Fin 14)).map fun i => f i s.events[i]

/-- 0x230 event summary. -/
def State.eventWord (s : State) : Word :=
  statusOf (eventFields s (fun i e => flagAt i.val e.pending + flagAt (16 + i.val) e.enabled + flagAt (32 + i.val) e.urgent)
    ++ [flagAt 48 s.intU, flagAt 49 s.intN])

/-- 0x238 counts of kinds 0 to 7. -/
def State.countWord0 (s : State) : Word :=
  statusOf (eventFields s fun i e => if i.val < 8 then bitsAt (8 * i.val) 8 e.count else 0)

/-- 0x240 counts of kinds 8 to 13. -/
def State.countWord1 (s : State) : Word :=
  statusOf (eventFields s fun i e => if i.val < 8 then 0 else bitsAt (8 * (i.val - 8)) 8 e.count)

/-- 0x248 line word. -/
def State.lineWord (s : State) : Word :=
  statusOf ((allLines.map fun n => bitsAt (4 * n.val) 2 (functionCode s.lines[n].config.function)
      + flagAt (4 * n.val + 2) (s.raw n) + flagAt (4 * n.val + 3) s.lines[n].debounced)
    ++ [bitsAt 32 9 s.conditions.toNat])

/-- 0x250 rate word. -/
def State.rateWord (s : State) : Word :=
  statusOf [bitsAt 0 4 ((s.rate.source.map (·.val)).getD 15), bitsAt 8 8 s.rate.threshold, bitsAt 16 8 s.rate.running,
    bitsAt 24 8 s.rate.last]

/-- A cause's bit. -/
def causeBit : Cause → Nat
  | .staleShown => 0
  | .scanStall => 1
  | .chime => 2

/-- 0x258 alert status. -/
def State.alertWord (s : State) : Word :=
  statusOf (([Cause.staleShown, .scanStall, .chime].map fun c =>
      flagAt (causeBit c) (s.causePresent c) + flagAt (16 + causeBit c) (s.alert.record.contains c))
    ++ [bitsAt 4 2 (phaseCode s.alert.phase), flagAt 8 s.alert.silenced, flagAt 24 s.alertActive])

/-- The entries field of view stack word 0, from entry e of the bottom. -/
def stackFields : Nat → List StackEntry → List Nat
  | _, [] => []
  | e, x :: rest => (bitsAt (4 * e + 32) 3 x.view.val + flagAt (4 * e + 35) x.released) :: stackFields (e + 1) rest

/-- 0x260 view stack 0. -/
def State.stackWord0 (s : State) : Word := statusOf (bitsAt 0 4 s.stack.length :: stackFields 0 s.stack.reverse)

/-- 0x268 view stack 1. -/
def State.stackWord1 (s : State) : Word := statusOf [bitsAt 0 32 ((s.stack.head?.map (·.entered.toNat)).getD 0)]

/-- Request state code of a view (R136). -/
def State.requestCode (s : State) (v : Fin 8) : Nat :=
  match s.stack.find? fun e => e.view = v with
  | some e => if e.released then 3 else 2
  | none => if s.isPending v then 1 else 0

/-- 0x270 view state. -/
def State.viewWord (s : State) : Word :=
  statusOf (allLines.map fun v => flagAt (8 * v.val) s.views[v].definition.isSome + bitsAt (8 * v.val + 1) 2 (s.requestCode v)
    + flagAt (8 * v.val + 3) s.views[v].inMatch + bitsAt (8 * v.val + 4) 2 (triggerCode s.views[v].trigger)
    + flagAt (8 * v.val + 6) s.views[v].command)

/-- 0x278 scan word. -/
def State.scanWord (s : State) : Word :=
  statusOf (flagAt 1 s.scan.scanStall :: match s.scan.definition with
    | none => []
    | some d => [flagAt 0 true, bitsAt 4 4 d.tag.toNat, bitsAt 8 12 d.width, bitsAt 20 11 d.height,
        bitsAt 32 10 d.limit, bitsAt 42 15 d.stride])

/-- Engine fields of the bank status word. -/
def engineFields : Engine → List Nat
  | .idle => []
  | .waiting e t => [bitsAt 2 2 1, bitsAt 4 3 (editCode e), bitsAt 7 1 (bankCode t)]
  | .editing e t => [bitsAt 2 2 2, bitsAt 4 3 (editCode e), bitsAt 7 1 (bankCode t)]

/-- 0x280 bank status. -/
def State.bankWord (s : State) : Word :=
  let o := s.overlay
  statusOf ([bitsAt 0 1 (bankCode o.active), flagAt 1 o.flipWaiting] ++ engineFields o.engine
    ++ [bitsAt 8 12 o.bankA.length, bitsAt 20 12 o.bankB.length, bitsAt 32 24 o.hatch.toNat])

/-- Context summary 0 of a slot. -/
def State.summaryWord0 (s : State) (k : Fin 2) : Word :=
  match s.scan.slots[k] with
  | none => 0
  | some c => statusOf [flagAt 0 true, flagAt 1 c.opened, flagAt 2 (s.newestOpen = some k), bitsAt 4 3 c.view.val,
      bitsAt 7 1 (bankCode c.bank), bitsAt 8 8 c.mask.toNat, bitsAt 16 6 (s.refCount k), bitsAt 32 32 c.frame.toNat]

/-- Context summary 1 of a slot. -/
def State.summaryWord1 (s : State) (k : Fin 2) : Word :=
  match s.scan.slots[k] with
  | none => 0
  | some c => statusOf [bitsAt 0 32 c.start.toNat, bitsAt 32 24 c.hatch.toNat]

/-- A position of the pane judgements word. -/
def paneField (e : PaneEntry) : Nat :=
  flagAt 0 true + bitsAt 1 4 e.pane.val + bitsAt 5 2 (judgementCode e.judgement) + flagAt 7 e.torn + flagAt 8 e.mismatch
    + match e.lock with
      | some l => bitsAt 9 2 l.buffer + bitsAt 11 3 l.camera.val + flagAt 14 true
      | none => 0

/-- The positions of the pane judgements word from position i. -/
def paneFields : Nat → List PaneEntry → List Nat
  | _, [] => []
  | i, e :: rest => paneField e * 2 ^ (16 * i) :: paneFields (i + 1) rest

/-- Pane judgements of a slot. -/
def State.judgementWord (s : State) (k : Fin 2) : Word :=
  match s.scan.slots[k] with
  | none => 0
  | some c => statusOf (paneFields 0 c.panes)

/-- The buffer states field from buffer k. -/
def bufferFields : Nat → List BufferRec → List Nat
  | _, [] => []
  | k, b :: rest => bitsAt (2 * k + 32) 2 (bufferCode b) :: bufferFields (k + 1) rest

/-- First word of a camera. -/
def State.cameraWord1 (s : State) (c : Fin 6) : Word :=
  let x := s.cameras[c]
  match x.record with
  | none => statusOf [bitsAt 16 16 x.generation.toNat]
  | some r => statusOf ([flagAt 0 true, bitsAt 1 2 (cameraCode r.state), bitsAt 4 2 (r.newest.getD 0), flagAt 7 r.newest.isSome,
      bitsAt 16 16 x.generation.toNat, bitsAt 40 4 (corruptCode (r.lastCorruption.map (·.cause))),
      bitsAt 44 2 ((r.lastCorruption.map (·.buffer)).getD 0), bitsAt 48 3 r.geo.ring, bitsAt 52 4 r.geo.owner.toNat]
      ++ bufferFields 0 r.buffers)

/-- Second word of a camera. -/
def State.cameraWord2 (s : State) (c : Fin 6) : Word :=
  match s.cameras[c].record.bind fun r => r.newest.bind r.completed with
  | none => 0
  | some (q, t) => statusOf [bitsAt 0 32 q.toNat, bitsAt 32 32 t.toNat]

/-- Third word of a camera. -/
def State.cameraWord3 (s : State) (c : Fin 6) : Word :=
  match s.cameras[c].record.bind (·.lastCorruption) with
  | none => 0
  | some x => statusOf [bitsAt 0 32 x.seq.toNat]

/-- A camera by number. -/
def cameraAt (n : Nat) : Fin 6 := ⟨n % 6, Nat.mod_lt _ (by decide)⟩

/-- The status area map: the word at an offset of the page; offsets it does not list read 0 (R170). -/
def State.statusWord (s : State) (offset : Nat) : Word :=
  if offset = 0x200 then s.identityWord
  else if offset = 0x208 then s.operatingWord
  else if offset = 0x210 then s.counterWord
  else if offset = 0x218 then s.clockWord
  else if offset = 0x220 then s.commandWord
  else if offset = 0x228 then s.lossWord
  else if offset = 0x230 then s.eventWord
  else if offset = 0x238 then s.countWord0
  else if offset = 0x240 then s.countWord1
  else if offset = 0x248 then s.lineWord
  else if offset = 0x250 then s.rateWord
  else if offset = 0x258 then s.alertWord
  else if offset = 0x260 then s.stackWord0
  else if offset = 0x268 then s.stackWord1
  else if offset = 0x270 then s.viewWord
  else if offset = 0x278 then s.scanWord
  else if offset = 0x280 then s.bankWord
  else if offset = 0x288 then s.summaryWord0 0
  else if offset = 0x290 then s.summaryWord1 0
  else if offset = 0x298 then s.judgementWord 0
  else if offset = 0x2A0 then s.summaryWord0 1
  else if offset = 0x2A8 then s.summaryWord1 1
  else if offset = 0x2B0 then s.judgementWord 1
  else if 0x2C0 ≤ offset && offset < 0x320 then
    if offset % 16 = 0 then s.cameraWord1 (cameraAt ((offset - 0x2C0) / 16)) else s.cameraWord2 (cameraAt ((offset - 0x2C0) / 16))
  else if 0x320 ≤ offset && offset < 0x350 then s.cameraWord3 (cameraAt ((offset - 0x320) / 8))
  else 0

end Sys2Proof.Machine
end

