-- ==== Sys2Proof/Machine/Link.lean ====
section
/-! DEFINITION. The Link Forwarder (01): requests taken, classified, offered and forwarded; responses taken, matched, transformed and delivered. -/

namespace Sys2Proof.Machine

/-! ### Writes (R7, R8) -/

/-- What a write beat is for its watcher, decided at the taking (R4, R8, R28). -/
inductive Offer
  | slot (n : Fin 64)
  | capture (c : Fin 6) (buffer : Nat) (kind : BeatKind)
  | unwatched
  deriving DecidableEq, Repr

/-- A slot by number. -/
def slotAt (n : Nat) : Fin 64 := ⟨n % 64, Nat.mod_lt _ (by decide)⟩

/-- The watcher of a write beat at a byte address (R8). -/
def State.offerOf (s : State) (tag : Tag) (a : Nat) : Offer :=
  match s.classify a with
  | .slot => .slot (slotAt ((a - s.pageBase) / 8))
  | .capture c =>
    match s.cameras[c].record with
    | some r => .capture c (r.geo.bufferAt a) (r.geo.kindOf tag a)
    | none => .unwatched
  | .status | .page | .scan | .outside => .unwatched

/-- A beat offered to its watcher (R8). -/
def State.offerBeat (s : State) (o : Offer × WriteBeat) : State :=
  match o.1 with
  | .slot n => s.takeSlotBeat n o.2
  | .capture c k kind => s.captureBeat c k kind
  | .unwatched => s

/-- The beats of a write with their watchers, all classified at the taking (R4, R8). -/
def State.offers (s : State) (w : WriteReq) : List (Offer × WriteBeat) :=
  ((burst w.addr w.data.length).map (s.offerOf w.tag)).zip w.data

/-- A request offered on the memory port (R7). -/
def State.forward (s : State) (r : Request) : State := s.withLink { s.link with memOut := some r }

/-- A WRITE taken: its beats are offered in beat order, then it is forwarded unchanged (R7, R8). -/
def State.takeWrite (s : State) (w : WriteReq) : State := ((s.offers w).foldl State.offerBeat s).forward (.write w)

/-! ### Reads (R9, R45 to R48) -/

/-- A read is a frame start (R45). -/
def State.isFrameStart (s : State) (r : ReadReq) : Bool :=
  s.readClass r = .scan && (s.scan.definition.map (·.base)) = some (byteAddr r.addr)

/-- A read can be taken: room in the table, and a free slot for a frame start (R10, R48). -/
def State.canTakeRead (s : State) (r : ReadReq) : Bool :=
  s.link.table.length < Config.tableSize && !(s.isFrameStart r && s.freeSlot.isNone)

/-- The entry of a read joins the outstanding read table (R9 step 4, R11). -/
def State.addEntry (s : State) (e : Entry) : State := s.withLink { s.link with table := s.link.table ++ [e] }

/-- A read taken without redirection: entered and forwarded to its address taken (R9 steps 4 and 5). -/
def State.takePlain (s : State) (r : ReadReq) (cls : ReadClass) (k : Option (Fin 2)) : State :=
  (s.addEntry { tag := r.tag, addr := r.addr, beats := r.beats, cls := cls, context := k, redirect := none }).forward (.read r)

/-- A SCAN read named to the context of a slot: the Redirect Unit decides, and the read is entered and forwarded (R9 steps 3 to 5, R69 to R76). -/
def State.takeNamed (s : State) (r : ReadReq) (k : Fin 2) : State :=
  match s.scan.slots[k] with
  | none => s.takePlain r .scan none
  | some c =>
    match c.decide r.addr (readCount r) with
    | .plain => s.takePlain r .scan (some k)
    | .split => (s.raise .splitBurst).takePlain r .scan (some k)
    | .redirect a x =>
      (s.addEntry { tag := r.tag, addr := r.addr, beats := r.beats, cls := .scan, context := some k, redirect := some x }).forward
        (.read { r with addr := linkAddr a })

/-- A SCAN read that is not a frame start (R46). -/
def State.takeScanRead (s : State) (r : ReadReq) : State :=
  match s.newestOpen with
  | some k => s.takeNamed r k
  | none => s.takePlain r .scan none

/-- The frame number's step and a waiting flip at a frame start (R47 steps 1 and 2). -/
def State.beginFrame (s : State) : State :=
  let t := s.withScan { s.scan with frame := s.scan.frame + 1 }
  if t.overlay.flipWaiting then t.takeFlip else t

/-- A frame start taken with a free slot (R47): the context opens, the read is named to it, and only then do the commands behind a flip start and a waiting edit settle (R47 step 2; log 18). -/
def State.takeFrameStart (s : State) (r : ReadReq) (d : ScanDef) (k : Fin 2) : State :=
  let t := (s.beginFrame.openContext d k).takeNamed r k
  (if s.overlay.flipWaiting then t.startHead else t).settleWait

/-- A READ taken (R9). -/
def State.takeRead (s : State) (r : ReadReq) : State :=
  match s.readClass r with
  | .plain => s.takePlain r .plain none
  | .status => s.takePlain r .status none
  | .scan =>
    match s.scan.definition, s.freeSlot with
    | some d, some k => if byteAddr r.addr = d.base then s.takeFrameStart r d k else s.takeScanRead r
    | some _, none => s.takeScanRead r
    | none, _ => s.takeScanRead r

/-! ### The system port request channel (R3, R7, R10) -/

/-- A request offered behind those that wait (R3). -/
def State.offerRequest (s : State) (r : Request) : State := s.withLink { s.link with sysPort := s.link.sysPort ++ [r] }

/-- The requests that wait, the head gone. -/
def State.dropRequest (s : State) : State := s.withLink { s.link with sysPort := s.link.sysPort.tail }

/-- The WRITE at the head of the port is taken unless the memory controller holds (R10). -/
def State.tryWrite (s : State) (held : Bool) : State :=
  match s.link.sysPort.head? with
  | some (.write w) => if held then s else s.dropRequest.takeWrite w
  | some (.read _) => s
  | none => s

/-- The READ at the head of the port is taken unless a cause of R10 holds it. -/
def State.tryRead (s : State) (held : Bool) : State :=
  match s.link.sysPort.head? with
  | some (.read r) => if held || !s.canTakeRead r then s else s.dropRequest.takeRead r
  | some (.write _) => s
  | none => s

/-! ### Responses (R12 to R17) -/

/-- A response offered behind those that wait (R3). -/
def State.offerResponse (s : State) (r : Response) : State := s.withLink { s.link with memPort := s.link.memPort ++ [r] }

/-- A READ response passes the response stages: matched, OK and of its entry's beat count (R13). -/
def staged (e : Option Entry) (r : ReadResp) : Bool :=
  match e with
  | some x => !r.error && r.data.length = x.beats.toNat + 1
  | none => false

/-- The oldest entry of a tag (R12). -/
def State.matchEntry (s : State) (tag : Tag) : Option Entry := s.link.table.find? fun e => e.tag == tag

/-- A READ response taken from the head of the memory port; an anomaly raises MEMORY_ERROR once (R12, R15 to R17). -/
def State.takeReadResponse (s : State) (r : ReadResp) : State :=
  let e := s.matchEntry r.tag
  let t := s.withLink { s.link with memPort := s.link.memPort.tail,
                                    delivering := some { response := .read r, entry := e, staged := staged e r, sent := 0 } }
  if staged e r then t else t.raise .memoryError

/-- A WRITE response taken: matched to no entry (R12). -/
def State.takeWriteResponse (s : State) (r : WriteResp) : State :=
  s.withLink { s.link with memPort := s.link.memPort.tail,
                           delivering := some { response := .write r, entry := none, staged := false, sent := 0 } }

/-- The READ response at the head of the memory port is taken unless one is being delivered (R14). -/
def State.tryReadResponse (s : State) : State :=
  match s.link.delivering, s.link.memPort.head? with
  | none, some (.read r) => s.takeReadResponse r
  | none, some (.write _) => s
  | none, none => s
  | some _, _ => s

/-- The WRITE response at the head of the memory port is taken unless one is being delivered (R14). -/
def State.tryWriteResponse (s : State) : State :=
  match s.link.delivering, s.link.memPort.head? with
  | none, some (.write r) => s.takeWriteResponse r
  | none, some (.read _) => s
  | none, none => s
  | some _, _ => s

/-! ### The response stages and delivery (R13, R14, R169 to R171) -/

/-- Beats mapped with their numbers from i. -/
def mapBeats (f : Nat → Beat → Beat) : Nat → List Beat → List Beat
  | _, [] => []
  | i, b :: rest => f i b :: mapBeats f (i + 1) rest

/-- Stage 1: a beat whose address taken lies in the status area is replaced by its status word (R169). -/
def State.substitute (s : State) (a : BeatAddr) (i : Nat) (b : Beat) : Beat :=
  let x := beatAddrOf a i
  if s.statusExtent.holds x then s.statusWord (x - s.pageBase) else b

/-- Stage 2: a mirrored read's pixels are reversed (R77). -/
def mirrorStage (e : Entry) (data : List Beat) : List Beat :=
  match e.redirect with
  | some x => if x.mirror then mirrorBeats data else data
  | none => data

/-- Stage 3: composition from the context the entry names, with the spans its bank holds (R98). -/
def State.composeStage (s : State) (e : Entry) (data : List Beat) : List Beat :=
  match e.context with
  | none => data
  | some k =>
    match s.scan.slots[k] with
    | none => data
    | some c => mapBeats (fun i b => c.composeBeat (s.overlay.spans c.bank) e.addr i b) 0 data

/-- The beats of a staged response as its entry's class and stages make them now (R13). -/
def State.stages (s : State) (e : Entry) (data : List Beat) : List Beat :=
  match e.cls with
  | .status => mapBeats (s.substitute e.addr) 0 data
  | .plain | .scan => s.composeStage e (mirrorStage e data)

/-- The data beats of a response. -/
def responseData : Response → List Beat
  | .read r => r.data
  | .write _ => []

/-- The beats of the response being delivered, as they stand now (R98, R171; log 9). -/
def State.deliveredData (s : State) (d : Delivering) : List Beat :=
  match d.entry with
  | some e => if d.staged then s.stages e (responseData d.response) else responseData d.response
  | none => responseData d.response

/-- What the part offers on the system port's response channel. -/
def delivered (r : Response) (first : Nat) (beats : List Beat) (final : Bool) : Delivered :=
  match r with
  | .read x => { tag := x.tag, isWrite := false, error := x.error, count := BitVec.ofNat 5 x.data.length, first := first,
                 beats := beats, final := final }
  | .write x => { tag := x.tag, isWrite := true, error := x.error, count := x.count, first := first, beats := beats,
                  final := final }

/-- The table without the oldest entry of a tag. -/
def dropOldest (tag : Tag) : List Entry → List Entry
  | [] => []
  | e :: rest => if e.tag = tag then rest else e :: dropOldest tag rest

/-- The matched entry retires, then the contexts that may, then a wait that this ends (R14, R55, R87). -/
def State.retireEntry (s : State) (e : Entry) : State :=
  ((s.withLink { s.link with table := dropOldest e.tag s.link.table }).retireContexts).settleWait

/-- The response has been delivered; a matched entry, anomalous or not, retires now (R14, R16, R17; log 8). -/
def State.endDelivery (s : State) (d : Delivering) : State :=
  let t := s.withLink { s.link with delivering := none }
  match d.entry with
  | some e => t.retireEntry e
  | none => t

/-- The master takes up to `n` further beats, n at least 1 (R14, R171; log 7, log 9). -/
def State.deliver (s : State) (d : Delivering) (n : Nat) : State :=
  let data := s.deliveredData d
  let beats := (data.drop d.sent).take n
  let sent := d.sent + beats.length
  let final := decide (data.length ≤ sent)
  let t := s.withLink { s.link with delivering := some { d with sent := sent },
                                    sysOut := some (delivered d.response d.sent beats final) }
  if final then t.endDelivery d else t

/-- The master takes up to `n` beats of the held response; with 0 it holds the channel (R3, R14). -/
def State.tryDeliver (s : State) (n : Nat) : State :=
  match s.link.delivering with
  | none => s
  | some d => if n = 0 then s else s.deliver d n

/-! ### The five rows of the link -/

/-- The outcome of a row: nothing happens while RESET_N is low (R3, R19; log 12). -/
def State.unlessReset (s : State) (t : State) : Host.Outcome State Fault Refusal := .next (if s.resetLow then s else t)

/-- A response offered on the memory port, taken if the part can; while RESET_N is low the part holds the channel and the controller keeps its response (R3, R19; log 12). -/
def State.takenUnlessReset (s : State) (take : State → State) : Host.Outcome State Fault Refusal := s.unlessReset (take s)

/-- WRITE_REQUEST (R8). -/
def execWriteRequest (held : Bool) (r : Option WriteReq) (s : State) : Host.Outcome State Fault Refusal :=
  match r with
  | some w => s.unlessReset ((s.offerRequest (.write w)).tryWrite held)
  | none => s.unlessReset (s.tryWrite held)

/-- READ_REQUEST (R9). -/
def execReadRequest (held : Bool) (r : Option ReadReq) (s : State) : Host.Outcome State Fault Refusal :=
  match r with
  | some x => s.unlessReset ((s.offerRequest (.read x)).tryRead held)
  | none => s.unlessReset (s.tryRead held)

/-- READ_RESPONSE (R12). -/
def execReadResponse (r : Option ReadResp) (s : State) : Host.Outcome State Fault Refusal :=
  match r with
  | some x => (s.offerResponse (.read x)).takenUnlessReset State.tryReadResponse
  | none => s.unlessReset s.tryReadResponse

/-- WRITE_RESPONSE (R12). -/
def execWriteResponse (r : Option WriteResp) (s : State) : Host.Outcome State Fault Refusal :=
  match r with
  | some x => (s.offerResponse (.write x)).takenUnlessReset State.tryWriteResponse
  | none => s.unlessReset s.tryWriteResponse

/-- RESPONSE_DELIVERY (R14). -/
def execResponseDelivery (beats : Nat) (s : State) : Host.Outcome State Fault Refusal := s.unlessReset (s.tryDeliver beats)

end Sys2Proof.Machine
end

