-- ==== Sys2Proof/Machine/Reset.lean ====
section
/-! DEFINITION. Pin reset (R19, R42, R64, R82, R106, R109, R125, R148, R166, R183): its assertion and its release. -/

namespace Sys2Proof.Machine

/-- A line at its reset configuration, the world outside as it is (R125). -/
def VehicleLine.pinReset (l : VehicleLine) : VehicleLine :=
  { config := LineConfig.reset, outside := l.outside, debounced := false, timer := none }

/-- Both ports after a pin reset: requests, the response taken and the table are gone (R19); responses not yet taken stay with the memory controller, which goes on offering them (R3, R15). -/
def Link.pinReset (l : Link) : Link := { State.reset.link with memPort := l.memPort }

/-- Every block at its reset values, RESET_N and the sampled straps as given; the debounced levels equal the raw levels (R125). The events that wait, what the outside presents and the free counter are not the part's. -/
def State.pinReset (s : State) (low : Bool) (strap : BitVec 2) : State :=
  let t := { State.reset with pending := s.pending, free := s.free, resetLow := low, strap := strap,
                              link := s.link.pinReset,
                              lines := Vector.ofFn fun n => s.lines[n].pinReset }
  t.withLines (Vector.ofFn fun n => { t.lines[n] with debounced := t.raw n })

/-- RESET_ASSERT (R19, R166): the reset values are taken at the assertion (log 12). -/
def execResetAssert (s : State) : Host.Outcome State Fault Refusal := .next (s.pinReset true s.strap)

/-- RESET_RELEASE (R19, R149): the straps are sampled; with RESET_N high already nothing happens (R149, log 12). -/
def execResetRelease (straps : BitVec 2) (s : State) : Host.Outcome State Fault Refusal :=
  .next (if s.resetLow then s.pinReset false straps else s)

end Sys2Proof.Machine
end

