-- ==== Sys2Proof/Machine/Timers.lean ====
section
/-! DEFINITION. The Time Base and the expiries of the millisecond timers (R20 to R24), the line level change, and the two events of the edit engine. -/

namespace Sys2Proof.Machine

/-! ### The timers (R21, R24) -/

/-- The millisecond timers of the part (R24). -/
inductive TimerId
  | debounce (n : Fin 8)
  | rate
  | lateness (c : Fin 6)
  | scanStall
  | linger (v : Fin 8)
  | pulse
  | chime
  deriving DecidableEq, Repr

/-- The linger timer of a view (R132). -/
def TriggerHold.timer : TriggerHold → Timer
  | .absent | .matching => none
  | .lingering aim => some aim

/-- A timer of the part. -/
def State.timer (s : State) : TimerId → Timer
  | .debounce n => s.lines[n].timer
  | .rate => s.rate.timer
  | .lateness c => s.cameras[c].record.bind (·.lateness)
  | .scanStall => s.scan.stallTimer
  | .linger v => s.views[v].trigger.timer
  | .pulse => s.alert.pulseTimer
  | .chime => s.alert.chimeTimer

/-- Every timer. V0 has no linger timer. -/
def allTimers : List TimerId :=
  allLines.map .debounce ++ [.rate] ++ allCameras.map .lateness ++ [.scanStall] ++ upViews.map .linger ++ [.pulse, .chime]

/-- The scan stall timer expires (R60): SCAN_STALL becomes true, and a waiting flip takes effect (R94). -/
def State.expireScanStall (s : State) : State :=
  let t := (s.withScan { s.scan with stallTimer := none }).setScanStall true
  if t.overlay.flipWaiting then t.takeFlip.startHead else t

/-- The expiry of a timer, by its owning block. -/
def State.expire (s : State) : TimerId → State
  | .debounce n => s.takeDebounced n (s.raw n)
  | .rate => s.endRateWindow
  | .lateness c => s.expireLateness c
  | .scanStall => s.expireScanStall
  | .linger v => s.endLinger v
  | .pulse => s.togglePulse
  | .chime => s.endChime

/-- A timer's expiry as an event of its own: it happens when the timer is due (R21; log 3). -/
def State.expireIfDue (s : State) (i : TimerId) : State := if s.due (s.timer i) then s.expire i else s

/-- The timers due. -/
def State.dueTimers (s : State) : List TimerId := allTimers.filter fun i => s.due (s.timer i)

/-- The free choice among several timers due (log 4). -/
def State.chooseDue (s : State) (first : TimerId) (ts : List TimerId) : TimerId :=
  ts.getD (Config.expiryChoice s.free % ts.length) first

/-- The timers of the list expire one after another, in an order left free, each if it is still due at its turn; `n` bounds their number (log 3, log 4). -/
def State.expireAll : Nat → List TimerId → State → State
  | 0, _, s => s
  | _ + 1, [], s => s
  | _ + 1, [i], s => s.expireIfDue i
  | n + 1, i :: j :: rest, s =>
    let next := s.chooseDue i (i :: j :: rest)
    (({ s with free := s.free + 1 }).expireIfDue next).expireAll n ((i :: j :: rest).erase next)

/-- The expiries owed at the present millisecond are over before time goes on or stops (R21; log 3). -/
def State.settleTimers (s : State) : State := s.expireAll s.dueTimers.length s.dueTimers

/-! ### The rows of the Time Base -/

/-- A millisecond period completes (R20; log 14). -/
def State.tick (s : State) : State :=
  let t := s.settleTimers
  t.withTime { t.time with ms := t.time.ms + 1, period := 0 }

/-- The clock-lost condition becomes true (R22, R24; log 14, log 23). -/
def State.loseClock (s : State) (edges : Nat) : State :=
  let t := s.settleTimers
  (t.withTime { t.time with lost := true, wasLost := true, period := min 999 (max t.time.period edges) }).raise .clockLost

/-- The clock-lost condition becomes false; a rising edge counts in the interrupted period (R22, R24). -/
def State.returnClock (s : State) (rising : Bool) : State :=
  s.withTime { s.time with lost := false, period := if rising then min 999 (s.time.period + 1) else s.time.period }

/-- MILLISECOND_TICK (R20): no period completes while the clock is lost (R24) or RESET_N is low. -/
def execMillisecondTick (s : State) : Host.Outcome State Fault Refusal :=
  .next (if s.resetLow || s.time.lost then s else s.tick)

/-- CLOCK_LOSS (R22): a clock already lost is not lost again (log 27). -/
def execClockLoss (edges : Nat) (s : State) : Host.Outcome State Fault Refusal :=
  .next (if s.resetLow || s.time.lost then s else s.loseClock edges)

/-- CLOCK_RETURN (R22). -/
def execClockReturn (rising : Bool) (s : State) : Host.Outcome State Fault Refusal :=
  .next (if s.resetLow || !s.time.lost then s else s.returnClock rising)

/-! ### The rows of the lines and the timers -/

/-- LINE_LEVEL_CHANGE (R109, R110). -/
def execLineLevelChange (line : Fin 8) (outside : Outside) (s : State) : Host.Outcome State Fault Refusal :=
  .next (s.setOutside line outside)

/-- DEBOUNCE_TIMER_EXPIRY (R110). -/
def execDebounceTimerExpiry (line : Fin 8) (s : State) : Host.Outcome State Fault Refusal :=
  .next (s.expireIfDue (.debounce line))

/-- RATE_WINDOW_EXPIRY (R115). -/
def execRateWindowExpiry (s : State) : Host.Outcome State Fault Refusal := .next (s.expireIfDue .rate)

/-- LATENESS_TIMER_EXPIRY (R37). -/
def execLatenessTimerExpiry (camera : Fin 6) (s : State) : Host.Outcome State Fault Refusal :=
  .next (s.expireIfDue (.lateness camera))

/-- SCAN_STALL_TIMER_EXPIRY (R60). -/
def execScanStallTimerExpiry (s : State) : Host.Outcome State Fault Refusal := .next (s.expireIfDue .scanStall)

/-- LINGER_TIMER_EXPIRY (R132). -/
def execLingerTimerExpiry (view : Fin 8) (s : State) : Host.Outcome State Fault Refusal :=
  .next (s.expireIfDue (.linger view))

/-- PULSE_TIMER_EXPIRY (R119). -/
def execPulseTimerExpiry (s : State) : Host.Outcome State Fault Refusal := .next (s.expireIfDue .pulse)

/-- CHIME_TIMER_EXPIRY (R118). -/
def execChimeTimerExpiry (s : State) : Host.Outcome State Fault Refusal := .next (s.expireIfDue .chime)

/-! ### The rows of the edit engine -/

/-- EDIT_WAIT_END (R87): it happens whenever an edit waits on a target that is no longer referenced (log 2). -/
def execEditWaitEnd (s : State) : Host.Outcome State Fault Refusal := .next (if s.resetLow then s else s.settleWait)

/-- EDIT_COMPLETION (R88). -/
def execEditCompletion (s : State) : Host.Outcome State Fault Refusal := .next (if s.resetLow then s else s.completeEdit)

end Sys2Proof.Machine
end

