-- ==== Sys2Proof/Machine/Dispatch.lean ====
section
/-! DEFINITION. The event of each constructor handed to its meaning, one arm each. -/

namespace Sys2Proof.Machine

def exec (i : Instr) (s : State) : Host.Outcome State Fault Refusal :=
  match i with
  | .writeRequest held r => Sys2Proof.Machine.execWriteRequest held r s
  | .readRequest held r => Sys2Proof.Machine.execReadRequest held r s
  | .readResponse r => Sys2Proof.Machine.execReadResponse r s
  | .writeResponse r => Sys2Proof.Machine.execWriteResponse r s
  | .responseDelivery beats => Sys2Proof.Machine.execResponseDelivery beats s
  | .resetAssert => Sys2Proof.Machine.execResetAssert s
  | .resetRelease straps => Sys2Proof.Machine.execResetRelease straps s
  | .millisecondTick => Sys2Proof.Machine.execMillisecondTick s
  | .clockLoss edges => Sys2Proof.Machine.execClockLoss edges s
  | .clockReturn rising => Sys2Proof.Machine.execClockReturn rising s
  | .lineLevelChange line outside => Sys2Proof.Machine.execLineLevelChange line outside s
  | .debounceTimerExpiry line => Sys2Proof.Machine.execDebounceTimerExpiry line s
  | .rateWindowExpiry => Sys2Proof.Machine.execRateWindowExpiry s
  | .latenessTimerExpiry camera => Sys2Proof.Machine.execLatenessTimerExpiry camera s
  | .scanStallTimerExpiry => Sys2Proof.Machine.execScanStallTimerExpiry s
  | .lingerTimerExpiry view => Sys2Proof.Machine.execLingerTimerExpiry view s
  | .pulseTimerExpiry => Sys2Proof.Machine.execPulseTimerExpiry s
  | .chimeTimerExpiry => Sys2Proof.Machine.execChimeTimerExpiry s
  | .editWaitEnd => Sys2Proof.Machine.execEditWaitEnd s
  | .editCompletion => Sys2Proof.Machine.execEditCompletion s
  | .run len => Sys2Proof.Machine.execRun len s
  | .bypass len => Sys2Proof.Machine.execBypass len s
  | .softReset len => Sys2Proof.Machine.execSoftReset len s
  | .setScan len args => Sys2Proof.Machine.execSetScan len args s
  | .setCapture len args => Sys2Proof.Machine.execSetCapture len args s
  | .clearCapture len camera => Sys2Proof.Machine.execClearCapture len camera s
  | .setPane len args => Sys2Proof.Machine.execSetPane len args s
  | .clearPane len pane => Sys2Proof.Machine.execClearPane len pane s
  | .setView len args => Sys2Proof.Machine.execSetView len args s
  | .clearView len view => Sys2Proof.Machine.execClearView len view s
  | .requestView len view => Sys2Proof.Machine.execRequestView len view s
  | .releaseView len view => Sys2Proof.Machine.execReleaseView len view s
  | .truncateStack len depth => Sys2Proof.Machine.execTruncateStack len depth s
  | .addSpan len args => Sys2Proof.Machine.execAddSpan len args s
  | .removeSpan len args => Sys2Proof.Machine.execRemoveSpan len args s
  | .clearBank len => Sys2Proof.Machine.execClearBank len s
  | .copyBank len => Sys2Proof.Machine.execCopyBank len s
  | .flipBank len => Sys2Proof.Machine.execFlipBank len s
  | .setHatch len colour => Sys2Proof.Machine.execSetHatch len colour s
  | .setLine len args => Sys2Proof.Machine.execSetLine len args s
  | .setRate len source threshold => Sys2Proof.Machine.execSetRate len source threshold s
  | .setEvents len enable urgent => Sys2Proof.Machine.execSetEvents len enable urgent s
  | .ackEvents len mask => Sys2Proof.Machine.execAckEvents len mask s
  | .silenceAlert len => Sys2Proof.Machine.execSilenceAlert len s
  | .unknownCodeCommand len code args => Sys2Proof.Machine.execUnknownCodeCommand len code args s

end Sys2Proof.Machine
end

