-- ==== Sys2Proof/Machine/Step.lean ====
section
/-! DEFINITION. The step: the event at the front of the queue (first in, first out), and a word put there. -/

namespace Sys2Proof.Machine

/-- The state with another queue of events. -/
def State.withPending (s : State) (q : List Instr) : State := { s with pending := q }

/-- One step: the event at the front runs on the rest; with none waiting the part idles (log 13). -/
def step (s : State) : Host.Outcome State Fault Refusal :=
  match s.pending with
  | [] => .next s
  | c :: rest => exec c (s.withPending rest)

/-- The state with the event a table word spells at the front of its queue; the table's rows give no bits, so none does. -/
def State.withFetchWord (s : State) (nbits w : Nat) : State :=
  match decodeTableWord nbits w with
  | some c => s.withPending (c :: s.pending)
  | none => s

end Sys2Proof.Machine
end

