-- ==== Sys2Proof/Safety.lean ====
section
/-! DEFINITION. What every state of the part keeps: one predicate per block, each from the rule it cites, and their conjunctions that a step preserves. Also the few notions the statements about commands share. -/

namespace Sys2Proof

/-- The event of the command row of a command of the catalogue, its header declaring `len`. -/
def Cmd.event (len : BitVec 3) : Cmd → Instr
  | .run => .run len
  | .bypass => .bypass len
  | .softReset => .softReset len
  | .setScan a => .setScan len a
  | .setCapture a => .setCapture len a
  | .clearCapture c => .clearCapture len c
  | .setPane a => .setPane len a
  | .clearPane p => .clearPane len p
  | .setView a => .setView len a
  | .clearView v => .clearView len v
  | .requestView v => .requestView len v
  | .releaseView v => .releaseView len v
  | .truncateStack d => .truncateStack len d
  | .addSpan a => .addSpan len a
  | .removeSpan a => .removeSpan len a
  | .clearBank => .clearBank len
  | .copyBank => .copyBank len
  | .flipBank => .flipBank len
  | .setHatch c => .setHatch len c
  | .setLine a => .setLine len a
  | .setRate source threshold => .setRate len source threshold
  | .setEvents enable urgent => .setEvents len enable urgent
  | .ackEvents mask => .ackEvents len mask
  | .silenceAlert => .silenceAlert len

end Sys2Proof

namespace Sys2Proof.Machine

/-! ### A command that finds the Command Unit free -/

/-- Out of reset, with no request held at the system port and an empty command queue: the next complete command reaches the part and starts at once (R10, R154). -/
def State.Ready (s : State) : Prop := s.resetLow = false ∧ s.command.queue = [] ∧ s.link.sysPort = []

/-- The completion record after one more command was enqueued and completed with a result, a refusal counted and raised (R154, R159). -/
def State.finished (s : State) (r : Result) : State :=
  let t := s.withCommand { s.command with
    seq := s.command.seq + 1, lastSeq := s.command.seq + 1, lastResult := some r,
    refused := if r = .ok then s.command.refused else saturate 65535 s.command.refused }
  if r = .ok then t else t.raise .commandRefused

/-- One more command enqueued and left at the head of an empty queue (R157). -/
def State.started (s : State) (ws : List Word) : State :=
  s.withCommand { s.command with seq := s.command.seq + 1, queue := [{ seq := s.command.seq + 1, words := ws }] }

/-- The completion record of the command `q` with a result, a refusal counted and raised (R159). The queue is left to what follows. -/
def State.recorded (s : State) (q : Queued) (r : Result) : State :=
  let t := s.withCommand { s.command with
    lastSeq := q.seq, lastResult := some r,
    refused := if r = .ok then s.command.refused else saturate 65535 s.command.refused }
  if r = .ok then t else t.raise .commandRefused

/-- R156: the commands given are the queue, and the first of them starts at this event: one that completes at once leaves the queue, and the command behind it starts; one that goes on stays at the head with the others behind it. -/
def State.thenRun : State → List Queued → State
  | s, [] => s.withCommand { s.command with queue := [] }
  | s, q :: rest =>
    match (s.withCommand { s.command with queue := q :: rest }).startWords q.words with
    | (none, t) => t
    | (some r, t) => (t.recorded q r).thenRun rest

/-- R154 to R156: a complete command is lost to a queue of 64, or takes the next sequence number and joins the queue, and starts when the queue was empty. -/
def State.handedOver (s : State) (ws : List Word) : State :=
  let q : Queued := { seq := s.command.seq + 1, words := ws }
  let t := s.withCommand { s.command with seq := s.command.seq + 1, queue := s.command.queue ++ [q] }
  if 64 ≤ s.command.queue.length then s.lose .queueFull
  else if s.command.queue = [] then t.thenRun [q] else t

/-! ### The expiries owed -/

/-- The event of a timer's expiry. -/
def TimerId.event : TimerId → Instr
  | .debounce n => .debounceTimerExpiry n
  | .rate => .rateWindowExpiry
  | .lateness c => .latenessTimerExpiry c
  | .scanStall => .scanStallTimerExpiry
  | .linger v => .lingerTimerExpiry v
  | .pulse => .pulseTimerExpiry
  | .chime => .chimeTimerExpiry

/-- `u` is `s` after the expiries of the list, in its order; each that had others to choose from has used one free value (log 4). -/
def State.ExpiresTo : List TimerId → State → State → Prop
  | [], s, u => u = s
  | [i], s, u => exec i.event s = .next u
  | i :: j :: rest, s, u => ∃ t, exec i.event { s with free := s.free + 1 } = .next t ∧ t.ExpiresTo (j :: rest) u

/-! ### The view stack, entry by entry -/

/-- R141, R142: the top leaves, then the marked entries under it, and the views wanted, off the stack and above the new top are pushed, the lowest first. -/
def stackAfterPop (now : Millis) (wanted : Fin 8 → Bool) (st : List StackEntry) : List StackEntry :=
  let rest := st.tail.dropWhile (·.released)
  let top := (rest.head?.map (·.view)).getD 0
  ((([7, 6, 5, 4, 3, 2, 1] : List (Fin 8)).filter fun w => wanted w && rest.all (fun e => e.view ≠ w) && top < w).map fun w =>
    { view := w, released := false, entered := now }) ++ rest

/-- R140: a release of `v`, with the views wanted once it is not: the top is popped, a buried entry is marked, a view off the stack stops waiting. -/
def stackAfterRelease (now : Millis) (wanted : Fin 8 → Bool) (st : List StackEntry) (v : Fin 8) : List StackEntry :=
  if (st.head?.map (·.view)) = some v then stackAfterPop now wanted st
  else st.map fun e => if e.view = v then { e with released := true } else e

/-- R138, R139: a request of `v`: its mark is cleared, or it is pushed above the top, or it waits. -/
def stackAfterRequest (now : Millis) (st : List StackEntry) (v : Fin 8) : List StackEntry :=
  if st.any (fun e => e.view = v) then st.map fun e => if e.view = v then { e with released := false } else e
  else if (st.head?.map (·.view)).getD 0 < v then { view := v, released := false, entered := now } :: st
  else st

/-- R130: a view V1 to V7 matches the condition bits. -/
def State.viewMatches (s : State) (v : Fin 8) : Prop :=
  v ≠ 0 ∧ ∃ d, s.views[v].definition = some d ∧ d.mask ≠ 0
    ∧ ∀ i : Fin 9, d.mask.getLsbD i.val = true → s.conditions.getLsbD i.val = d.values.getLsbD i.val

/-- A change of the condition bits since `s`, when there is one, reaches the arbiter (R111). -/
def State.heard (s u : State) : State := if u.conditions = s.conditions then u else u.conditionChange

/-- R110 to R112, R115: the debounced level of input n, whose record is `l`, becomes the other level: its timer stops, a rise counts for the rate source, LINE_CHANGE occurs as the edge mode selects, and a changed condition bit reaches the arbiter. -/
def State.levelFollowed (s : State) (n : Fin 8) (l : VehicleLine) : State :=
  let up := !l.debounced
  let selected := match l.config.edge with
    | .never => false
    | .rising => up != l.config.activeLow
    | .falling => up == l.config.activeLow
    | .both => true
  s.heard { s with
    lines := s.lines.set n { l with debounced := up, timer := none },
    rate := if up = true ∧ s.rate.source = some n
      then { s.rate with running := if s.rate.running < 255 then s.rate.running + 1 else 255 } else s.rate,
    events := if selected then s.events.set 8 s.events[8].occur else s.events }

/-- R55: the context of slot k retires once the table holds `table`: no entry names it, and a newer context is live or the part is in BYPASS. -/
def State.mayRetire (s : State) (table : List Entry) (k : Fin 2) : Prop :=
  (∀ e ∈ table, e.context ≠ some k)
    ∧ ((s.scan.lastOpened ≠ k ∧ (s.scan.slots[s.scan.lastOpened]).isSome = true) ∨ s.command.running = false)

/-! ### Windows by address -/

/-- A byte address lies in the command page (R4, R149). -/
def State.inPage (s : State) (x : Nat) : Prop := s.pageBase ≤ x ∧ x < s.pageBase + 0x1000

/-- A byte address lies in the capture window of camera c (R4). -/
def State.inCapture (s : State) (c : Fin 6) (x : Nat) : Prop :=
  ∃ r, s.cameras[c].record = some r ∧ r.geo.base ≤ x ∧ x < r.geo.base + r.geo.ring * r.geo.spacing

/-- A byte address lies in the scan window (R4). -/
def State.inScan (s : State) (x : Nat) : Prop :=
  ∃ d, s.scan.definition = some d ∧ d.base ≤ x ∧ x < d.base + d.stride * d.height

/-! ### Event latch (09) -/

/-- R173, R180: a count is at most 255, a kind is pending exactly while its count is at least 1, and a level kind is pending while its condition holds. -/
def State.LatchOk (s : State) : Prop :=
  ∀ i : Fin 14, s.events[i].count ≤ 255 ∧ (s.events[i].pending = true ↔ 1 ≤ s.events[i].count)
    ∧ (s.levelHolds i = true → s.events[i].pending = true)

/-! ### View stack and requests (07) -/

/-- R137: view ids strictly decreasing from the top. -/
def descending : List StackEntry → Prop
  | [] => True
  | [_] => True
  | e :: f :: rest => f.view < e.view ∧ descending (f :: rest)

/-- R137: the stack ends in V0 at its bottom, strictly ordered, V0 and the top unmarked, 1 to 8 entries. -/
def State.StackOk (s : State) : Prop :=
  descending s.stack ∧ (s.stack.getLast?.map (·.view)) = some 0 ∧ s.stack.length ≤ 8
    ∧ (s.stack.head?.map (·.released)) = some false ∧ ∀ e ∈ s.stack, e.view = 0 → e.released = false

/-- R135, R136: an entry above V0 is marked exactly while its view is not wanted, a view that waits lies below the top, an undefined view holds nothing, and V0 has no holds and no match. -/
def State.RequestsOk (s : State) : Prop :=
  (∀ e ∈ s.stack, e.view ≠ 0 → e.released = !s.views[e.view].wanted)
    ∧ (∀ v : Fin 8, s.isPending v = true → v < s.topView)
    ∧ (∀ v : Fin 8, v ≠ 0 → s.views[v].definition = none → s.views[v].wanted = false ∧ s.onStack v = false)
    ∧ s.views[(0 : Fin 8)].definition.isSome = true ∧ s.views[(0 : Fin 8)].wanted = false

/-- R130 to R132: the recorded match state is the trigger decided from the condition bits as they stand, a matching hold is in match and a lingering one is not. -/
def State.MatchesOk (s : State) : Prop :=
  ∀ v : Fin 8, s.views[v].inMatch = s.matchesNow v
    ∧ (s.views[v].trigger = .matching → s.views[v].inMatch = true)
    ∧ ((s.views[v].trigger.timer).isSome = true → s.views[v].inMatch = false)

/-- The View Arbiter's state. -/
def State.ArbiterOk (s : State) : Prop := s.StackOk ∧ s.RequestsOk ∧ s.MatchesOk

/-! ### Lines and rate (06) -/

/-- R110, R113: out of reset an input's debounce timer runs exactly while its raw level differs from its debounced level, and an output line's debounced level is held low with no timer. -/
def State.LineOk (s : State) (n : Fin 8) : Prop :=
  if s.lines[n].config.function = .input then
    s.resetLow = false → (s.lines[n].timer.isSome = true ↔ s.raw n ≠ s.lines[n].debounced)
  else s.lines[n].debounced = false ∧ s.lines[n].timer = none

/-- R114, R115: the rate source is an input line, the window runs exactly while there is a source, K8 needs one, and the counts are at most 255. -/
def State.RateOk (s : State) : Prop :=
  (∀ n : Fin 8, s.rate.source = some n → s.lines[n].config.function = .input)
    ∧ (s.rate.timer.isSome = s.rate.source.isSome) ∧ (s.rate.k8 = true → s.rate.source.isSome = true)
    ∧ (s.rate.source = none → s.rate.running = 0) ∧ s.rate.running ≤ 255 ∧ s.rate.last ≤ 255 ∧ s.rate.threshold ≤ 255

/-- The Line Conditioner's state. -/
def State.LinesOk (s : State) : Prop := (∀ n : Fin 8, s.LineOk n) ∧ s.RateOk

/-! ### Alert Driver (06) -/

/-- A PULSE cause is present (R117). -/
def State.pulsePresent (s : State) : Bool := s.scan.scanStall || s.alert.chime

/-- R118, R119, R121, R122: the timers run with their cause and phase, the phase is idle exactly while no PULSE cause is present, and the silence record is the set of causes present while silenced, else empty. -/
def State.AlertOk (s : State) : Prop :=
  (s.alert.chimeTimer.isSome = s.alert.chime) ∧ (s.alert.pulseTimer.isSome = s.pulsePresent)
    ∧ (s.alert.phase = .idle ↔ s.pulsePresent = false)
    ∧ (if s.alert.silenced then s.alert.record = s.presentCauses ∧ s.alert.record ≠ [] else s.alert.record = [])

/-! ### Windows (01) -/

/-- Two optional extents share no byte address. -/
def apart (e f : Option Extent) : Prop :=
  match e, f with
  | some x, some y => x.overlaps y = false
  | some _, none => True
  | none, _ => True

/-- An extent that is present ends within the address space. -/
def within (e : Option Extent) : Prop :=
  match e with
  | some x => x.wraps = false
  | none => True

/-- R5: the windows present share no byte address and none passes 0xFFFF_FFFF. -/
def State.WindowsOk (s : State) : Prop :=
  apart (some s.pageExtent) s.scanExtent ∧ within s.scanExtent
    ∧ ∀ c : Fin 6, apart (some s.pageExtent) (s.captureExtent c) ∧ apart s.scanExtent (s.captureExtent c)
        ∧ within (s.captureExtent c) ∧ ∀ d : Fin 6, c ≠ d → apart (s.captureExtent c) (s.captureExtent d)

/-! ### Capture Monitor (02) -/

/-- A buffer is FILLING. -/
def BufferRec.isFilling : BufferRec → Bool
  | .filling _ _ => true
  | .empty | .complete _ _ | .corrupt _ _ => false

/-- R25, R29, R36, R37: the definition's ranges, one record per buffer, at most one FILLING, a newest that is COMPLETE, present exactly when some buffer is; NO_FRAME exactly without one, and the lateness timer running exactly while FRESH. -/
def CaptureRec.Ok (r : CaptureRec) : Prop :=
  r.geo.accepted = true ∧ r.buffers.length = r.geo.ring ∧ r.buffers.countP BufferRec.isFilling ≤ 1
    ∧ (match r.newest with
        | some k => (r.buffer k).isComplete = true
        | none => r.buffers.any BufferRec.isComplete = false)
    ∧ (r.state = .noFrame ↔ r.newest = none) ∧ (r.lateness.isSome = true ↔ r.state = .fresh) ∧ r.nextSeq ≠ 0

/-- Every defined capture record is in order. -/
def State.CamerasOk (s : State) : Prop := ∀ c : Fin 6, ∀ r, s.cameras[c].record = some r → r.Ok

/-! ### Overlay (05) -/

/-- R83: the ranges of a span's fields. -/
def Span.Ok (x : Span) : Prop := x.line ≤ 1079 ∧ x.x0 ≤ x.x1 ∧ x.x1 ≤ 2047

/-- R84: the limits of a bank. -/
def BankOk (l : List Span) : Prop :=
  l.length ≤ 2048 ∧ l.Pairwise (fun x y => x.before y = true)
    ∧ l.Pairwise (fun x y => y.clashes x.layer x.line x.x0 x.x1 = false)
    ∧ (∀ n : Nat, l.countP (fun x => x.line = n) ≤ 24) ∧ ∀ x ∈ l, x.Ok

/-- The edit an engine carries has passed its argument checks, and in EDITING its content checks too (R86). -/
def Overlay.EngineOk (o : Overlay) : Prop :=
  match o.engine with
  | .idle => True
  | .waiting e _ => ∀ x, e = .add x → x.Ok
  | .editing e t => (∀ x, e = .add x → x.Ok) ∧ contentCheck e (o.spans t) = none

/-- R84, R86: both banks in order, and the edit carried checked. -/
def State.BanksOk (s : State) : Prop := BankOk s.overlay.bankA ∧ BankOk s.overlay.bankB ∧ s.overlay.EngineOk

/-! ### Frame contexts and the outstanding read table (01, 03) -/

/-- R6, R11, R13, R69: only a SCAN entry names a context, and only an entry that names one is redirected. -/
def Entry.Ok (e : Entry) : Prop := (e.context.isSome = true → e.cls = .scan) ∧ (e.redirect.isSome = true → e.context.isSome = true)

/-- R11, R14, R55: at most 32 entries, each naming a live context if any; the response being delivered belongs to the oldest entry of its tag. -/
def State.TableOk (s : State) : Prop :=
  s.link.table.length ≤ 32 ∧ (∀ e ∈ s.link.table, e.Ok)
    ∧ (∀ e ∈ s.link.table, ∀ k, e.context = some k → s.scan.slots[k].isSome = true)
    ∧ ∀ d, s.link.delivering = some d → ∀ e, d.entry = some e → s.matchEntry e.tag = some e

/-- The newest open context has a STALE or DARK pane entry (R56). -/
def State.newestHatched (s : State) : Bool :=
  match s.newestOpen with
  | some k => (slotPanes s.scan.slots[k]).any PaneEntry.hatched
  | none => false

/-- R55, R56, R60 to R62: RUN has a scan window, its stall timer runs exactly while SCAN_STALL is false, BYPASS has neither timer, nor conditions, nor open context; no context that may retire is live; the slot opened last is open if any is; STALE_SHOWN describes the newest open context. -/
def State.ScanOk (s : State) : Prop :=
  (s.command.running = true → s.scan.definition.isSome = true ∧ (s.scan.stallTimer.isSome = true ↔ s.scan.scanStall = false))
    ∧ (s.command.running = false → s.scan.stallTimer = none ∧ s.scan.scanStall = false ∧ ∀ k : Fin 2, s.isOpen k = false)
    ∧ (∀ k : Fin 2, s.retires k = false) ∧ (∀ k : Fin 2, s.isOpen k = true → s.isOpen s.scan.lastOpened = true)
    ∧ s.scan.staleShown = s.newestHatched

/-- R43: an accepted scan window definition. -/
def State.ScanDefOk (s : State) : Prop := ∀ d, s.scan.definition = some d → d.accepted = true

/-- R52, R126: pane lists and pane entries of at most four, and accepted pane records (R65). -/
def State.PanesOk (s : State) : Prop :=
  (∀ p : Fin 16, ∀ x, s.panes[p] = some x → x.geo.accepted = true)
    ∧ (∀ v : Fin 8, ∀ d, s.views[v].definition = some d → d.panes.length ≤ 4)
    ∧ (∀ k : Fin 2, (slotPanes s.scan.slots[k]).length ≤ 4)

/-! ### Command Unit (08) -/

/-- R154, R156: the sequence numbers that follow `n` in a queue of `k` commands. -/
def numbersAfter (n : BitVec 16) : Nat → List (BitVec 16)
  | 0 => []
  | k + 1 => (n + 1) :: numbersAfter (n + 1) k

/-- R152 to R159: at most 64 commands, numbered on from the last completed one up to the sequence counter, of 1 to 4 words; the counts at most 65535, a loss cause exactly after a loss; an assembly record of 1 to 3 words, short of its length. -/
def State.QueueOk (s : State) : Prop :=
  s.command.queue.length ≤ 64
    ∧ s.command.queue.map (·.seq) = numbersAfter s.command.lastSeq s.command.queue.length
    ∧ s.command.seq = s.command.lastSeq + BitVec.ofNat 16 s.command.queue.length
    ∧ (∀ q ∈ s.command.queue, 1 ≤ q.words.length ∧ q.words.length ≤ 4)
    ∧ s.command.refused ≤ 65535 ∧ s.command.lost ≤ 65535 ∧ (s.command.lossCause = none ↔ s.command.lost = 0)
    ∧ (∀ a, s.command.assembly = some a → 1 ≤ a.words.length ∧ a.words.length < a.length ∧ a.length ≤ 4)

/-- An edit is in progress (R86). -/
def Engine.busy : Engine → Bool
  | .idle => false
  | .waiting _ _ | .editing _ _ => true

/-- R86, R96, R156, R157: commands wait in the queue exactly while the head is an edit in progress or a flip that waits, never both; a flip waits only in RUN with a live context and the scan stall timer running. -/
def State.TimedOk (s : State) : Prop :=
  (s.command.queue ≠ [] ↔ (s.overlay.engine.busy = true ∨ s.overlay.flipWaiting = true))
    ∧ (s.overlay.engine.busy = true → s.overlay.flipWaiting = false)
    ∧ (s.overlay.flipWaiting = true →
        s.command.running = true ∧ s.anyLive = true ∧ s.scan.scanStall = false ∧ s.scan.stallTimer.isSome = true)

/-- R87: an edit that waits has a referenced target. -/
def State.WaitOk (s : State) : Prop := ∀ e t, s.overlay.engine = .waiting e t → s.referenced t = true

/-! ### The whole part -/

/-- The clock-lost condition has set its flag (R22, R23), and the period counter is at most 999 (R20). -/
def State.TimeOk (s : State) : Prop := (s.time.lost = true → s.time.wasLost = true) ∧ s.time.period ≤ 999

/-- What depends on the operating state, the contexts, the table, the queue and the edit engine together. -/
def State.FlowOk (s : State) : Prop := s.TableOk ∧ s.ScanOk ∧ s.ScanDefOk ∧ s.TimedOk ∧ s.WaitOk

/-- While RESET_N is low every block stands at its reset values (R3, R19, log 12), the levels on the pins apart. -/
def State.ResetOk (s : State) : Prop := s.resetLow = true → ∃ l, s = { s.pinReset true s.strap with lines := l }

/-- Every predicate. -/
def State.Inv (s : State) : Prop :=
  s.LatchOk ∧ s.ArbiterOk ∧ s.LinesOk ∧ s.AlertOk ∧ s.WindowsOk ∧ s.CamerasOk ∧ s.BanksOk ∧ s.FlowOk ∧ s.PanesOk ∧ s.QueueOk
    ∧ s.TimeOk

end Sys2Proof.Machine
end

