-- ==== Sys2Proof/Certificates/Slice0/Obligations.lean ====
section
/-! DEFINITION. The statements for the provers. -/

open Sys2Proof Sys2Proof.Machine

/-! ### The step, reset and the pin RESET_N -/

/-- A step takes the event at the front of the queue, and idles on an empty queue (log 13). -/
def Obligations.StepTakesTheFrontEvent : Prop :=
  (∀ (c : Instr) (rest : List Instr) (s : State), step (s.withPending (c :: rest)) = exec c (s.withPending rest))
    ∧ ∀ s : State, s.pending = [] → step s = .next s

/-- Every event answers a next state and leaves the queue of events alone. -/
def Obligations.EveryEventAnswersANextState : Prop :=
  ∀ (i : Instr) (s : State), ∃ t, exec i s = .next t ∧ t.pending = s.pending

/-- While RESET_N is low, the pins and the reset itself act, a response offered on the memory port stays with its controller, and every other event changes nothing (R3, R19, R109; log 12). -/
def Obligations.LowResetFreezesThePart : Prop :=
  ∀ s : State, s.resetLow = true →
    (∀ i : Instr, i ≠ .resetAssert → (∀ x, i ≠ .resetRelease x) → (∀ n o, i ≠ .lineLevelChange n o) →
      (∀ r, i ≠ .readResponse (some r)) → (∀ r, i ≠ .writeResponse (some r)) → exec i s = .next s)
    ∧ (∀ r, exec (.readResponse (some r)) s = .next { s with link := { s.link with memPort := s.link.memPort ++ [.read r] } })
    ∧ (∀ r, exec (.writeResponse (some r)) s = .next { s with link := { s.link with memPort := s.link.memPort ++ [.write r] } })
    ∧ ∀ (n : Fin 8) (o : Outside),
        exec (.lineLevelChange n o) s = .next { s with lines := s.lines.set n { s.lines[n] with outside := o } }

/-- RESET_ASSERT and RESET_RELEASE leave every block at its reset values; responses that the part has not taken stay with the memory controller (R3, R19, R42, R64, R82, R106, R125, R148, R149, R166, R183). V0's trigger mask, values and linger are the model's (log 11). -/
def Obligations.PinResetGivesTheResetValues : Prop :=
  ∀ (s : State) (straps : BitVec 2),
    (∃ t, exec .resetAssert s = .next t ∧ t.resetLow = true ∧ t.strap = s.strap ∧ t.intU = false ∧ t.intN = false
      ∧ t.link = { State.reset.link with memPort := s.link.memPort } ∧ t.command = State.reset.command ∧ t.overlay = State.reset.overlay ∧ t.pending = s.pending)
    ∧ (s.resetLow = true → ∃ t, exec (.resetRelease straps) s = .next t ∧ t.resetLow = false ∧ t.strap = straps
      ∧ t.link = { sysPort := [], memPort := s.link.memPort, table := [], delivering := none, memOut := none, sysOut := none }
      ∧ t.time = { ms := 0, period := 0, lost := false, wasLost := false }
      ∧ (∀ c : Fin 6, t.cameras[c] = { generation := 0, record := none })
      ∧ t.scan.definition = none ∧ (∀ k : Fin 2, t.scan.slots[k] = none) ∧ t.scan.frame = 0 ∧ t.scan.lastShown = none
      ∧ t.scan.stallTimer = none ∧ t.scan.scanStall = false ∧ t.scan.staleShown = false
      ∧ (∀ p : Fin 16, t.panes[p] = none)
      ∧ t.overlay = { bankA := [], bankB := [], active := .a, hatch := 0xFFB000, engine := .idle, flipWaiting := false }
      ∧ (∀ n : Fin 8, t.lines[n].config
            = { function := .input, pullUp := false, activeLow := false, debounce := 0, edge := .never }
          ∧ t.lines[n].outside = s.lines[n].outside ∧ t.lines[n].debounced = s.lines[n].outside.level ∧ t.lines[n].timer = none)
      ∧ t.rate = { source := none, threshold := 0, running := 0, last := 0, timer := none, k8 := false }
      ∧ t.alert = { chime := false, chimeTimer := none, phase := .idle, pulseTimer := none, silenced := false, record := [] }
      ∧ t.views[(0 : Fin 8)].definition
          = some { panes := [], layers := 0xFF, mask := 0, values := 0, linger := 0, chime := false }
      ∧ (∀ v : Fin 8, v ≠ 0 → t.views[v] = { definition := none, inMatch := false, trigger := .absent, command := false })
      ∧ t.stack = [{ view := 0, released := false, entered := 0 }]
      ∧ t.command = { running := false, assembly := none, queue := [], seq := 0, lastSeq := 0, lastResult := none,
                      refused := 0, lost := 0, lossCause := none }
      ∧ (∀ i : Fin 14, t.events[i] = { pending := false, count := 0, enabled := false, urgent := false })
      ∧ t.pageBase = (if straps = 0 then 0x0FFFF000 else if straps = 1 then 0x1FFFF000 else if straps = 2 then 0x3FFFF000
          else 0x7FFFF000))
    ∧ (s.resetLow = false → exec (.resetRelease straps) s = .next s)

/-- R106: what a pin reset leaves in the Overlay Compositor, from every state. -/
def Obligations.CompositorAfterPinReset : Prop :=
  ∀ (s : State) (straps : BitVec 2), ∃ t u, exec .resetAssert s = .next t ∧ exec (.resetRelease straps) t = .next u
    ∧ u.overlay.bankA = [] ∧ u.overlay.bankB = [] ∧ u.overlay.active = .a ∧ u.overlay.editBank = .b
    ∧ u.overlay.hatch = 0xFFB000 ∧ u.overlay.engine = .idle ∧ u.overlay.flipWaiting = false
    ∧ (∀ k : Fin 2, u.scan.slots[k] = none) ∧ (∀ x : Bank, u.referenced x = false)
    ∧ u.events[(13 : Fin 14)].pending = false ∧ u.events[(13 : Fin 14)].count = 0 ∧ u.command.queue = []

/-- The predicates that steps keep hold right after reset. -/
def Obligations.InvariantsHoldAtReset : Prop :=
  State.reset.Inv ∧ State.reset.ResetOk ∧ State.reset.resetLow = false ∧ State.reset.pending = []

/-! ### The link: requests -/

/-- A WRITE taken, at its offer to an empty port or as a waiting head at last, is forwarded once, unchanged, and changes nothing else of the link; without a beat in a command slot or a capture window it changes nothing else at all. A burst acts as its beats one after another in beat order: as a WRITE of its first beat and then one of the others, which keep the classes they have at the taking (R1, R4, R7, R8, R10, R28, R30). -/
def Obligations.WritesAreForwardedUnchanged : Prop :=
  ∀ (s : State) (w : WriteReq) (rest : List Request) (i : Instr), s.resetLow = false →
    ((i = .writeRequest false (some w) ∧ s.link.sysPort = [] ∧ rest = [])
      ∨ (i = .writeRequest false none ∧ s.link.sysPort = .write w :: rest)) →
    (∃ t, exec i s = .next t ∧ t.link = { s.link with sysPort := rest, memOut := some (.write w) }
      ∧ t.strap = s.strap ∧ t.resetLow = false)
    ∧ ((∀ j, j < w.data.length → s.classify (beatAddrOf w.addr j) ≠ .slot
          ∧ ∀ c, s.classify (beatAddrOf w.addr j) ≠ .capture c) →
        exec i s = .next { s with link := { s.link with sysPort := rest, memOut := some (.write w) } })
    ∧ ∀ (b : WriteBeat) (more : List WriteBeat), w.data = b :: more → w.data.length ≤ 16 →
        ∃ t u, exec (.writeRequest false (some { w with data := [b] })) { s with link := { s.link with sysPort := [] } } = .next t
          ∧ exec (.writeRequest false (some { w with addr := w.addr + 1, data := more })) t = .next u
          ∧ exec i s = .next { u with link := { u.link with sysPort := rest, memOut := some (.write w) } }
          ∧ ∀ j, j < more.length → beatAddrOf (w.addr + 1) j = beatAddrOf w.addr (j + 1)
              ∧ t.classify (beatAddrOf w.addr (j + 1)) = s.classify (beatAddrOf w.addr (j + 1))

/-- A request offered joins those that wait, and the head alone can be taken; a head that cannot be taken waits and changes nothing: the memory controller holds, the table holds 32 entries, or a frame start finds both slots live. A waiting head that can be taken is taken as if it had been offered alone, whatever it is, and those behind it go on waiting (R3, R10, R48). -/
def Obligations.HeldRequestsWait : Prop :=
  ∀ (s : State) (held : Bool), s.resetLow = false →
    (∀ w, exec (.writeRequest held (some w)) s
      = exec (.writeRequest held none) { s with link := { s.link with sysPort := s.link.sysPort ++ [.write w] } })
    ∧ (∀ r, exec (.readRequest held (some r)) s
      = exec (.readRequest held none) { s with link := { s.link with sysPort := s.link.sysPort ++ [.read r] } })
    ∧ exec (.writeRequest true none) s = .next s ∧ exec (.readRequest true none) s = .next s
    ∧ (s.link.sysPort = [] → exec (.writeRequest held none) s = .next s ∧ exec (.readRequest held none) s = .next s)
    ∧ (∀ w rest, s.link.sysPort = .write w :: rest → exec (.readRequest held none) s = .next s)
    ∧ (∀ r rest, s.link.sysPort = .read r :: rest → exec (.writeRequest held none) s = .next s
        ∧ (32 ≤ s.link.table.length → exec (.readRequest held none) s = .next s)
        ∧ (s.isFrameStart r = true → (∀ k : Fin 2, s.scan.slots[k].isSome = true) → exec (.readRequest held none) s = .next s))
    ∧ (∀ r : ReadReq, s.link.sysPort = [] →
        (32 ≤ s.link.table.length →
          exec (.readRequest held (some r)) s = .next { s with link := { s.link with sysPort := [.read r] } })
        ∧ (s.isFrameStart r = true → (∀ k : Fin 2, s.scan.slots[k].isSome = true) →
          exec (.readRequest held (some r)) s = .next { s with link := { s.link with sysPort := [.read r] } }))
    ∧ (let alone : State := { s with link := { s.link with sysPort := [] } }
       (∀ w rest, s.link.sysPort = .write w :: rest → ∃ t, exec (.writeRequest false (some w)) alone = .next t
          ∧ exec (.writeRequest false none) s = .next { t with link := { t.link with sysPort := rest } })
       ∧ ∀ r rest, s.link.sysPort = .read r :: rest → s.link.table.length < 32 →
          (s.isFrameStart r = true → ∃ k : Fin 2, s.scan.slots[k] = none) →
          ∃ t, exec (.readRequest false (some r)) alone = .next t ∧ t.link.sysPort = []
            ∧ exec (.readRequest false none) s = .next { t with link := { t.link with sysPort := rest } })

/-- One SLOT beat: a partial beat, a header of every declared length, a word out of order, which is then a header and may itself complete a command or be lost, and a continuation, which completes its command with the last word (R151 to R155). -/
def Obligations.SlotBeatsAssembleOrAreLost : Prop :=
  ∀ (s : State) (n : Fin 64) (tag : Tag) (data : Beat) (en : BitVec 8), s.resetLow = false → s.link.sysPort = [] →
    let w : WriteReq := { tag := tag, addr := linkAddr (s.pageBase + 8 * n.val), data := [{ data := data, enables := en }] }
    let len := (headerLength data).toNat
    let gives := fun t : State => exec (.writeRequest false (some w)) s = .next (t.forward (.write w))
    let header := fun t : State =>
      (len = 1 → gives (t.handedOver [data]))
      ∧ (2 ≤ len → len ≤ 4 → gives (t.setAssembly (some { words := [data], length := len, next := n + 1 })))
      ∧ ((len = 0 ∨ 5 ≤ len) → gives (t.lose .badLength))
    (en ≠ 0xFF → gives ((s.setAssembly none).lose .partialBeat))
    ∧ (en = 0xFF → s.command.assembly = none → header s)
    ∧ (en = 0xFF → ∀ a, s.command.assembly = some a →
        (n ≠ a.next → header ((s.setAssembly none).lose .outOfOrder))
        ∧ (n = a.next → a.words.length + 1 < a.length →
            gives (s.setAssembly (some { a with words := a.words ++ [data], next := n + 1 })))
        ∧ (n = a.next → a.words.length + 1 = a.length → gives ((s.setAssembly none).handedOver (a.words ++ [data]))))

/-- A command row does what the words of its command do when one WRITE carries them to consecutive slots (R152 to R154, R186; log 1). -/
def Obligations.CommandWordsDoWhatTheirRowDoes : Prop :=
  ∀ (s : State) (c : Cmd) (n : Nat) (tag : Tag), s.resetLow = false → s.link.sysPort = [] → s.command.assembly = none →
    n + c.length.toNat ≤ 64 →
    let w : WriteReq := { tag := tag, addr := linkAddr (s.pageBase + 8 * n),
                          data := (encodeCommand c.length c).map fun x => { data := x, enables := 0xFF } }
    ∃ t, exec (c.event c.length) s = .next t ∧ exec (.writeRequest false (some w)) s = .next (t.forward (.write w))

/-- A single-beat capture write: the owner's ordinary beat counts, and its final beat ends the fill (R28, R31, R32). -/
def Obligations.OrdinaryAndFinalCaptureBeats : Prop :=
  ∀ (s : State) (w : WriteReq) (beat : WriteBeat) (c : Fin 6) (r : CaptureRec) (q : BitVec 32) (m : Nat),
    s.resetLow = false → s.link.sysPort = [] → w.data = [beat] → s.cameras[c].record = some r →
    s.classify (byteAddr w.addr) = .capture c → w.tag = r.geo.owner →
    let k := (byteAddr w.addr - r.geo.base) / r.geo.spacing
    let o := (byteAddr w.addr - r.geo.base) % r.geo.spacing
    let line := o / r.geo.stride
    let column := o % r.geo.stride / 4
    r.buffers[k]? = some (.filling q m) → line < r.geo.height → column < r.geo.width → ¬(line = 0 ∧ column = 0) →
    (¬(line = r.geo.height - 1 ∧ column = r.geo.width - 2) →
      exec (.writeRequest false (some w)) s
        = .next ((s.setCamera c { s.cameras[c] with
            record := some { r with buffers := r.buffers.set k (.filling q (if m < 16777215 then m + 1 else 16777215)) } }).forward
              (.write w)))
    ∧ (line = r.geo.height - 1 → column = r.geo.width - 2 →
        (r.geo.height * r.geo.width / 2 ≤ (if m < 16777215 then m + 1 else 16777215) →
          ∃ t r', exec (.writeRequest false (some w)) s = .next t ∧ t.cameras[c].record = some r'
            ∧ r'.buffers = r.buffers.set k (.complete q s.time.ms) ∧ r'.newest = r'.findNewest
            ∧ t.scan = s.scan ∧ t.command = s.command ∧ (∀ d : Fin 6, d ≠ c → t.cameras[d] = s.cameras[d]))
        ∧ ((if m < 16777215 then m + 1 else 16777215) < r.geo.height * r.geo.width / 2 →
          exec (.writeRequest false (some w)) s
            = .next (((s.setCamera c { s.cameras[c] with
                record := some { r with buffers := r.buffers.set k (.corrupt q .short), lastCorruption := some ⟨k, q, .short⟩ } }).raise
                  .corruptFrame).forward (.write w))))

/-- A frame-first beat starts a frame and abandons another that fills; a stray or foreign beat corrupts its buffer; both set the torn flags of the locks on that buffer, and TORN is raised once exactly when a flag changes (R30, R33, R34, R35, R40, R53). -/
def Obligations.FrameFirstAndDamagingBeats : Prop :=
  ∀ (s : State) (w : WriteReq) (beat : WriteBeat) (c : Fin 6) (r : CaptureRec),
    s.resetLow = false → s.link.sysPort = [] → w.data = [beat] → s.cameras[c].record = some r → r.Ok →
    s.classify (byteAddr w.addr) = .capture c →
    let k := (byteAddr w.addr - r.geo.base) / r.geo.spacing
    let o := (byteAddr w.addr - r.geo.base) % r.geo.spacing
    let line := o / r.geo.stride
    let column := o % r.geo.stride / 4
    let locked := fun e : PaneEntry => e.lock.any fun l =>
      l.camera == c && l.generation == s.cameras[c].generation && l.buffer == k && l.current
    let tears := ∃ (i : Fin 2) (x : Context), s.scan.slots[i] = some x ∧ ∃ e ∈ x.panes, locked e = true ∧ e.torn = false
    let torn := fun t : State =>
      (∀ i : Fin 2, t.scan.slots[i] = s.scan.slots[i].map fun x =>
        { x with panes := x.panes.map fun e => if locked e then { e with torn := true } else e })
      ∧ (tears → t.events[(3 : Fin 14)] = s.events[(3 : Fin 14)].occur)
      ∧ (¬tears → t.events[(3 : Fin 14)] = s.events[(3 : Fin 14)])
    (w.tag = r.geo.owner → line = 0 → column = 0 →
      ∃ t r', exec (.writeRequest false (some w)) s = .next t ∧ t.cameras[c].record = some r'
        ∧ r'.buffers[k]? = some (.filling r.nextSeq 1) ∧ r'.nextSeq = (if r.nextSeq = 0xFFFFFFFF then 1 else r.nextSeq + 1)
        ∧ (∀ j q m, j ≠ k → r.buffers[j]? = some (.filling q m) →
            r'.buffers[j]? = some (.corrupt q .abandoned) ∧ r'.lastCorruption = some ⟨j, q, .abandoned⟩
              ∧ t.events[(2 : Fin 14)] = s.events[(2 : Fin 14)].occur)
        ∧ (∀ q m, r.buffers[k]? = some (.filling q m) → r'.lastCorruption = some ⟨k, q, .abandoned⟩
            ∧ t.events[(2 : Fin 14)] = s.events[(2 : Fin 14)].occur)
        ∧ (∀ j x, j ≠ k → r.buffers[j]? = some x → x.isFilling = false → r'.buffers[j]? = some x) ∧ torn t)
    ∧ (∀ cause : CorruptCause,
        ((cause = .foreign ∧ w.tag ≠ r.geo.owner ∧ line < r.geo.height ∧ column < r.geo.width)
          ∨ (cause = .stray ∧ w.tag = r.geo.owner ∧ line < r.geo.height ∧ column < r.geo.width ∧ ¬(line = 0 ∧ column = 0)
              ∧ (r.buffer k).isFilling = false)) →
        ∃ t r', exec (.writeRequest false (some w)) s = .next t ∧ t.cameras[c].record = some r' ∧ torn t
          ∧ r'.nextSeq = r.nextSeq
          ∧ (∀ q x, r.buffers[k]? = some (.corrupt q x) → r' = r ∧ t.events[(2 : Fin 14)] = s.events[(2 : Fin 14)])
          ∧ (∀ q, (r.buffers[k]? = some .empty ∧ q = 0 ∨ (∃ m, r.buffers[k]? = some (.filling q m))
                ∨ ∃ m, r.buffers[k]? = some (.complete q m)) →
              r'.buffers = r.buffers.set k (.corrupt q cause) ∧ r'.lastCorruption = some ⟨k, q, cause⟩
                ∧ t.events[(2 : Fin 14)] = s.events[(2 : Fin 14)].occur))

/-- Any single-beat capture write: the newest complete buffer, the camera state and the lateness timer change only when the beat makes a buffer enter or leave COMPLETE; then the newest is the COMPLETE buffer of highest sequence number, and a changed newest decides FRESH or LATE by its age; CAMERA_LATE is raised exactly on leaving FRESH (R29, R36, R37, R39). -/
def Obligations.CameraFollowsItsNewestBuffer : Prop :=
  ∀ (s : State) (w : WriteReq) (beat : WriteBeat) (c : Fin 6) (r : CaptureRec),
    s.resetLow = false → s.link.sysPort = [] → w.data = [beat] → s.cameras[c].record = some r → r.Ok →
    s.classify (byteAddr w.addr) = .capture c →
    let k := (byteAddr w.addr - r.geo.base) / r.geo.spacing
    let complete := fun (b : Option BufferRec) => ∃ q m, b = some (.complete q m)
    ∃ t r', exec (.writeRequest false (some w)) s = .next t ∧ t.cameras[c].record = some r' ∧ r'.geo = r.geo
      ∧ ((complete r.buffers[k]? ↔ complete r'.buffers[k]?) →
          r'.newest = r.newest ∧ r'.state = r.state ∧ r'.lateness = r.lateness)
      ∧ (¬(complete r.buffers[k]? ↔ complete r'.buffers[k]?) →
          (r'.newest = none ↔ ∀ j : Nat, ¬complete r'.buffers[j]?)
          ∧ (∀ j, r'.newest = some j → ∃ q m, r'.buffers[j]? = some (.complete q m)
              ∧ ∀ (i : Nat) p n, r'.buffers[i]? = some (.complete p n) → (r'.nextSeq - q).toNat ≤ (r'.nextSeq - p).toNat)
          ∧ (r'.newest = r.newest → r'.state = r.state ∧ r'.lateness = r.lateness)
          ∧ (r'.newest ≠ r.newest → r'.newest = none → r'.state = .noFrame ∧ r'.lateness = none)
          ∧ (∀ j q m, r'.newest ≠ r.newest → r'.newest = some j → r'.buffers[j]? = some (.complete q m) →
              ((s.time.ms - m).toNat < r.geo.limit →
                r'.state = .fresh ∧ r'.lateness = some (m + BitVec.ofNat 32 r.geo.limit))
              ∧ (r.geo.limit ≤ (s.time.ms - m).toNat → r'.state = .late ∧ r'.lateness = none)))
      ∧ (r.state = .fresh → r'.state ≠ .fresh → t.events[(1 : Fin 14)] = s.events[(1 : Fin 14)].occur)
      ∧ ((r.state ≠ .fresh ∨ r'.state = .fresh) → t.events[(1 : Fin 14)] = s.events[(1 : Fin 14)])

/-- A read's class: STATUS exactly when one of its beats lies in the status area, else SCAN exactly in RUN, of the scan tag, with its first beat in the scan window; a frame start is a SCAN read at the window's base. A READ that is not a SCAN read, at its offer or as a waiting head, is entered and forwarded to its address taken (R6, R9 to R11, R45). -/
def Obligations.PlainAndStatusReadsAreForwarded : Prop :=
  ∀ (s : State) (r : ReadReq),
    (s.readClass r = .status ↔ ∃ i, i < r.beats.toNat + 1 ∧ s.pageBase + 0x200 ≤ beatAddrOf r.addr i
      ∧ beatAddrOf r.addr i < s.pageBase + 0x400)
    ∧ (s.command.running = false → s.readClass r ≠ .scan)
    ∧ (s.WindowsOk → (s.readClass r = .scan ↔ s.readClass r ≠ .status ∧ s.command.running = true
        ∧ ∃ d, s.scan.definition = some d ∧ r.tag = d.tag ∧ d.base ≤ byteAddr r.addr
          ∧ byteAddr r.addr < d.base + d.stride * d.height))
    ∧ (s.isFrameStart r = true ↔ s.readClass r = .scan ∧ ∃ d, s.scan.definition = some d ∧ byteAddr r.addr = d.base)
    ∧ ∀ (rest : List Request) (i : Instr), s.resetLow = false →
        ((i = .readRequest false (some r) ∧ s.link.sysPort = [] ∧ rest = [])
          ∨ (i = .readRequest false none ∧ s.link.sysPort = .read r :: rest)) →
        s.link.table.length < 32 → s.readClass r ≠ .scan →
        exec i s = .next { s with
          link := { s.link with
            sysPort := rest,
            table := s.link.table ++ [{ tag := r.tag, addr := r.addr, beats := r.beats, cls := s.readClass r, context := none,
                                        redirect := none }],
            memOut := some (.read r) } }

/-- A frame start taken with no flip and no edit waiting opens a context with the values of R47 step 3 from the view on top, retires the older context when no entry names it, restarts the scan stall timer, raises CONFIG_MISMATCH for each pane omitted or entered with mismatch and PANE_STALE when its condition becomes true, and sends its own read into a pane that holds all its beats. A chime starts or re-aims its timer with 2000 ms; the pulse phase starts with the first PULSE cause and goes idle with the last; a cause outside the silence record ends the silence, and one that goes leaves the record, which ends the silence when it empties. Where SCAN_STALL ends and CHIME begins at once, the phase runs on or starts anew (log 5) (R45, R47, R49, R50, R54 to R60, R71 to R75, R118, R119, R122, R174). A read that waits at the head of the port is taken alike (HeldRequestsWait). -/
def Obligations.FrameStartOpensAContext : Prop :=
  ∀ (s : State) (r : ReadReq) (d : ScanDef) (k : Fin 2) (top : StackEntry) (under : List StackEntry) (view : ViewDef),
    s.resetLow = false → s.link.sysPort = [] → s.link.table.length < 32 → s.isFrameStart r = true →
    s.scan.definition = some d → s.freeSlot = some k → s.overlay.flipWaiting = false →
    (∀ e target, s.overlay.engine ≠ .waiting e target) → (∀ e ∈ s.link.table, e.context ≠ some k) →
    s.stack = top :: under → s.views[top.view].definition = some view →
    ∃ t c, exec (.readRequest false (some r)) s = .next t ∧ t.scan.slots[k] = some c
      ∧ t.scan.frame = s.scan.frame + 1 ∧ c.frame = s.scan.frame + 1 ∧ c.opened = true ∧ c.start = s.time.ms
      ∧ c.base = d.base ∧ c.stride = d.stride ∧ c.width = d.width ∧ c.height = d.height
      ∧ c.view = top.view ∧ c.mask = view.layers ∧ c.bank = s.overlay.active ∧ c.hatch = s.overlay.hatch
      ∧ c.panes = s.judgePanes d view.panes []
      ∧ t.scan.slots[otherSlot k] = (if s.refCount (otherSlot k) = 0 then none else s.scan.slots[otherSlot k])
      ∧ t.newestOpen = some k ∧ t.scan.lastOpened = k ∧ t.refCount k = 1
      ∧ t.scan.stallTimer = some (s.time.ms + BitVec.ofNat 32 d.limit) ∧ t.scan.scanStall = false
      ∧ t.scan.staleShown = c.panes.any PaneEntry.hatched
      ∧ t.scan.lastShown = some top.view
      ∧ (let m := (view.panes.length - c.panes.length) + c.panes.countP (·.mismatch)
         t.events[(6 : Fin 14)] = (if m = 0 then s.events[(6 : Fin 14)]
           else { s.events[(6 : Fin 14)] with pending := true, count := min 255 (s.events[(6 : Fin 14)].count + m) }))
      ∧ t.events[(0 : Fin 14)] = (if (∃ e ∈ c.panes, e.judgement ≠ .live) ∧ s.scan.staleShown = false
          then s.events[(0 : Fin 14)].occur else s.events[(0 : Fin 14)])
      ∧ t.events[(7 : Fin 14)] = (if s.scan.lastShown = some top.view then s.events[(7 : Fin 14)] else s.events[(7 : Fin 14)].occur)
      ∧ (∀ i : Fin 14, i ≠ 0 → i ≠ 5 → i ≠ 6 → i ≠ 7 → t.events[i] = s.events[i])
      ∧ (let chimes := s.scan.lastShown ≠ some top.view ∧ view.chime = true
         let arrives := chimes ∧ s.alert.chime = false
         let shown := c.panes.any PaneEntry.hatched
         let starts := t.alert.phase = .on ∧ t.alert.pulseTimer = some (s.time.ms + 250)
         let stays := t.alert.phase = s.alert.phase ∧ t.alert.pulseTimer = s.alert.pulseTimer
         let outside := (arrives ∧ Cause.chime ∉ s.alert.record)
           ∨ (shown = true ∧ s.scan.staleShown = false ∧ Cause.staleShown ∉ s.alert.record)
         let left := s.alert.record.filter fun x =>
           !(x = .scanStall && s.scan.scanStall) && !(x = .staleShown && s.scan.staleShown && !shown)
         (chimes → t.alert.chime = true ∧ t.alert.chimeTimer = some (s.time.ms + 2000))
         ∧ (¬chimes → t.alert.chime = s.alert.chime ∧ t.alert.chimeTimer = s.alert.chimeTimer)
         ∧ (arrives → s.scan.scanStall = false → starts)
         ∧ (arrives → s.scan.scanStall = true → starts ∨ stays)
         ∧ (¬arrives → s.scan.scanStall = true → s.alert.chime = false → t.alert.phase = .idle ∧ t.alert.pulseTimer = none)
         ∧ (¬arrives → (s.scan.scanStall = false ∨ s.alert.chime = true) → stays)
         ∧ (s.alert.silenced = false → t.alert.silenced = false ∧ t.alert.record = s.alert.record)
         ∧ (s.alert.silenced = true → outside → t.alert.silenced = false ∧ t.alert.record = [])
         ∧ (s.alert.silenced = true → ¬outside → t.alert.record = left
             ∧ (t.alert.silenced = false ↔ left ≠ s.alert.record ∧ left = [])))
      ∧ t.scan.definition = s.scan.definition ∧ t.time = s.time ∧ t.cameras = s.cameras ∧ t.panes = s.panes
      ∧ t.overlay = s.overlay ∧ t.lines = s.lines ∧ t.rate = s.rate ∧ t.views = s.views ∧ t.stack = s.stack
      ∧ t.command = s.command ∧ t.strap = s.strap ∧ t.resetLow = false ∧ t.pending = s.pending
      ∧ (let n := r.beats.toNat + 1
         let entered := fun x => t.link.table = s.link.table ++ [{ tag := r.tag, addr := r.addr, beats := r.beats, cls := .scan,
                                                                   context := some k, redirect := x }]
         let inside := fun e : PaneEntry => ∀ i, i < n → e.geo.holdsBeat (c.place r.addr i) = true ∧ 8 * i / d.stride = 0
         t.link = { s.link with table := t.link.table, memOut := t.link.memOut }
         ∧ (∀ e l, e ∈ c.panes → e.judgement ≠ .dark → e.lock = some l →
              (∀ x ∈ c.panes, x = e ∨ x.geo.sharesPixel e.geo = false) → inside e →
              let column := if e.geo.mirror then e.geo.srcX + e.geo.width - 2 * n else e.geo.srcX
              entered (some ⟨e.pane, e.geo.mirror⟩)
              ∧ t.link.memOut = some (.read { r with addr := linkAddr (l.base + e.geo.srcY * l.stride + column * 4) })
              ∧ t.events[(5 : Fin 14)] = s.events[(5 : Fin 14)])
         ∧ ((∀ e ∈ c.panes, e.judgement ≠ .dark → ¬inside e) →
              entered none ∧ t.link.memOut = some (.read r)
              ∧ ((∃ e ∈ c.panes, e.judgement ≠ .dark ∧ ∃ i, i < n ∧ e.geo.holdsBeat (c.place r.addr i) = true) →
                  t.events[(5 : Fin 14)] = s.events[(5 : Fin 14)].occur)
              ∧ ((∀ e ∈ c.panes, e.judgement ≠ .dark → ∀ i, i < n → e.geo.holdsBeat (c.place r.addr i) = false) →
                  t.events[(5 : Fin 14)] = s.events[(5 : Fin 14)])))

/-- The panes of a view at a frame start, taken in order: one that is undefined, or does not lie in the picture area, or shares a pixel with one already entered, is omitted; one whose camera is undefined or too small is DARK with mismatch; the others are judged from the camera's state and the clock, with a lock on the newest complete buffer (R49 to R52). The lock's flag `current` is the model's (log 21). -/
def Obligations.PanesAreJudgedAtTheFrameStart : Prop :=
  ∀ (s : State) (d : ScanDef) (entered : List PaneEntry),
    s.judgePanes d [] entered = entered
    ∧ ∀ (p : Fin 16) (list : List (Fin 16)),
        let entry := fun (x : PaneRec) (j : Judgement) (l : Option Lock) (m : Bool) =>
          ({ pane := p, geo := x.geo, judgement := j, lock := l, torn := false, mismatch := m } : PaneEntry)
        let omits := s.judgePanes d (p :: list) entered = s.judgePanes d list entered
        let enters := fun e => s.judgePanes d (p :: list) entered = s.judgePanes d list (entered ++ [e])
        (s.panes[p] = none → omits)
        ∧ ∀ x : PaneRec, s.panes[p] = some x → x.geo.accepted = true → (∀ e ∈ entered, e.geo.accepted = true) →
            let inWindow := x.geo.left + x.geo.width ≤ d.width ∧ x.geo.top + x.geo.height ≤ d.height
            let shares := ∃ e ∈ entered, ∃ line column, x.geo.holdsPixel line column = true ∧ e.geo.holdsPixel line column = true
            let fits := fun r : CaptureRec =>
              x.geo.srcX + x.geo.width ≤ r.geo.width ∧ x.geo.srcY + x.geo.height ≤ r.geo.height
            ((¬inWindow ∨ shares) → omits)
            ∧ (inWindow → ¬shares →
                (s.cameras[x.camera].record = none → enters (entry x .dark none true))
                ∧ ∀ r, s.cameras[x.camera].record = some r →
                    (¬fits r → enters (entry x .dark none true))
                    ∧ (fits r → r.state = .noFrame → enters (entry x .dark none false))
                    ∧ ∀ k, fits r → r.newest = some k →
                        let lock : Lock := { camera := x.camera, generation := s.cameras[x.camera].generation, buffer := k,
                                             base := r.geo.base + k * r.geo.spacing, stride := r.geo.stride, current := true }
                        (r.state = .late → enters (entry x .stale (some lock) false))
                        ∧ (r.state = .fresh → s.time.lost = true → enters (entry x .stale (some lock) false))
                        ∧ (r.state = .fresh → s.time.lost = false → enters (entry x .live (some lock) false)))

/-- A frame start with a flip that waits is the frame start after the flip has taken effect and its command completed, and then the commands behind it start. A frame start with an edit that waits is the frame start without it, after which the edit waits on while its target is referenced, and else begins EDITING or is refused by its content check, the commands behind it starting then (R47 steps 2 and 7, R55, R86, R87, R94, R95, R156; log 18). A read that waits at the head of the port is taken alike (HeldRequestsWait). -/
def Obligations.FrameStartTakesAFlipOrEndsAWait : Prop :=
  (∀ (s : State) (r : ReadReq) (k : Fin 2) (q : Queued) (rest : List Queued),
    s.resetLow = false → s.link.sysPort = [] → s.link.table.length < 32 → s.isFrameStart r = true →
    s.freeSlot = some k → s.overlay.flipWaiting = true → s.overlay.engine = .idle → s.command.queue = q :: rest →
    let flipped := (({ s with overlay := { s.overlay with active := s.overlay.active.other, flipWaiting := false } } : State).raise
      .bankFlipped).recorded q .ok
    ∃ t c, exec (.readRequest false (some r)) flipped = .next t
      ∧ exec (.readRequest false (some r)) s = .next (t.thenRun rest) ∧ t.scan.slots[k] = some c
      ∧ t.overlay = { s.overlay with active := s.overlay.active.other, flipWaiting := false }
      ∧ c.bank = s.overlay.active.other ∧ t.scan.frame = s.scan.frame + 1
      ∧ t.events[(13 : Fin 14)] = s.events[(13 : Fin 14)].occur
      ∧ t.command = { s.command with lastSeq := q.seq, lastResult := some .ok })
  ∧ ∀ (s : State) (r : ReadReq) (k : Fin 2) (e : Edit) (target : Bank) (q : Queued) (rest : List Queued),
    s.resetLow = false → s.link.sysPort = [] → s.link.table.length < 32 → s.isFrameStart r = true →
    s.freeSlot = some k → s.overlay.flipWaiting = false → s.overlay.engine = .waiting e target →
    s.command.queue = q :: rest →
    let engine := fun (t : State) (g : Engine) => ({ t with overlay := { t.overlay with engine := g } } : State)
    ∃ t c, exec (.readRequest false (some r)) (engine s .idle) = .next t ∧ t.scan.slots[k] = some c ∧ c.bank = s.overlay.active
      ∧ t.overlay = { s.overlay with engine := .idle } ∧ t.command = s.command
      ∧ t.scan.slots[otherSlot k] = (if s.refCount (otherSlot k) = 0 then none else s.scan.slots[otherSlot k])
      ∧ ((∃ (i : Fin 2) (x : Context), t.scan.slots[i] = some x ∧ x.bank = target) →
          exec (.readRequest false (some r)) s = .next (engine t (.waiting e target)))
      ∧ ((∀ (i : Fin 2) (x : Context), t.scan.slots[i] = some x → x.bank ≠ target) →
          (contentCheck e (s.overlay.spans target) = none →
            exec (.readRequest false (some r)) s = .next (engine t (.editing e target)))
          ∧ ∀ y, contentCheck e (s.overlay.spans target) = some y → y ≠ .ok →
              exec (.readRequest false (some r)) s = .next ((t.recorded q y).thenRun rest))

/-- A SCAN read that is not a frame start, wholly on one line in a redirected pane whose rectangle shares no pixel with another entry's, goes to the locked buffer at the address of R72, or of R73 when mirrored (R46, R71 to R73). A read that waits at the head of the port is taken alike (HeldRequestsWait). -/
def Obligations.ScanReadInAPaneIsRedirected : Prop :=
  ∀ (s : State) (r : ReadReq) (k : Fin 2) (c : Context) (e : PaneEntry) (l : Lock),
    s.resetLow = false → s.link.sysPort = [] → s.link.table.length < 32 → s.readClass r = .scan → s.isFrameStart r = false →
    s.newestOpen = some k → s.scan.slots[k] = some c → e ∈ c.panes → e.judgement ≠ .dark → e.lock = some l →
    (∀ x ∈ c.panes, x = e ∨ x.geo.sharesPixel e.geo = false) →
    let n := r.beats.toNat + 1
    let o := byteAddr r.addr - c.base
    (∀ i, i < n → (o + 8 * i) / c.stride = o / c.stride ∧ e.geo.left ≤ (o + 8 * i) % c.stride / 4
      ∧ (o + 8 * i) % c.stride / 4 + 1 < e.geo.left + e.geo.width) →
    c.base ≤ byteAddr r.addr → e.geo.top ≤ o / c.stride → o / c.stride < e.geo.top + e.geo.height →
    let u := o % c.stride / 4 - e.geo.left
    let v := o / c.stride - e.geo.top
    let column := if e.geo.mirror then e.geo.srcX + e.geo.width - u - 2 * n else e.geo.srcX + u
    exec (.readRequest false (some r)) s = .next { s with
      link := { s.link with
        table := s.link.table ++ [{ tag := r.tag, addr := r.addr, beats := r.beats, cls := .scan, context := some k,
                                    redirect := some ⟨e.pane, e.geo.mirror⟩ }],
        memOut := some (.read { r with addr := linkAddr (l.base + (e.geo.srcY + v) * l.stride + column * 4) }) } }

/-- A SCAN read not redirected: a beat in a redirected pane without the whole read in one raises SPLIT_BURST, no beat in any raises nothing, no open context names none; each is forwarded to its address taken (R46, R69, R74, R75). A read that waits at the head of the port is taken alike (HeldRequestsWait). -/
def Obligations.ScanReadsNotRedirected : Prop :=
  ∀ (s : State) (r : ReadReq),
    s.resetLow = false → s.link.sysPort = [] → s.link.table.length < 32 → s.readClass r = .scan → s.isFrameStart r = false →
    let entered := fun (t : State) (k : Option (Fin 2)) => { t with
      link := { t.link with
        table := t.link.table ++ [{ tag := r.tag, addr := r.addr, beats := r.beats, cls := .scan, context := k, redirect := none }],
        memOut := some (.read r) } }
    (s.newestOpen = none → exec (.readRequest false (some r)) s = .next (entered s none))
    ∧ ∀ k c, s.newestOpen = some k → s.scan.slots[k] = some c →
        ((∀ p ∈ c.places r.addr (r.beats.toNat + 1), ∀ e ∈ c.panes, e.judgement ≠ .dark → e.geo.holdsBeat p = false) →
          exec (.readRequest false (some r)) s = .next (entered s (some k)))
        ∧ ((∃ p ∈ c.places r.addr (r.beats.toNat + 1), ∃ e ∈ c.panes, e.judgement ≠ .dark ∧ e.geo.holdsBeat p = true) →
            (∀ e ∈ c.panes, e.judgement ≠ .dark → ∃ p ∈ c.places r.addr (r.beats.toNat + 1),
              e.geo.holdsBeat p = false ∨ p.line ≠ (c.place r.addr 0).line) →
            exec (.readRequest false (some r)) s = .next (entered (s.raise .splitBurst) (some k)))

/-! ### The link: responses -/

/-- A response is taken when none is being delivered, at its offer or as a waiting head: a READ response is matched to the oldest entry of its tag and raises MEMORY_ERROR exactly when unmatched, ERROR or of another beat count; behind one being delivered, or behind another response, it waits. The oldest entry of a tag is the first of the table, and its retirement leaves every other entry in its place (R3, R12, R14 to R17). -/
def Obligations.ResponsesAreTakenAndMatched : Prop :=
  (∀ s : State, s.resetLow = false →
    (∀ r, exec (.readResponse (some r)) s
      = exec (.readResponse none) { s with link := { s.link with memPort := s.link.memPort ++ [.read r] } })
    ∧ (∀ w, exec (.writeResponse (some w)) s
      = exec (.writeResponse none) { s with link := { s.link with memPort := s.link.memPort ++ [.write w] } })
    ∧ (s.link.delivering ≠ none ∨ s.link.memPort = [] →
        exec (.readResponse none) s = .next s ∧ exec (.writeResponse none) s = .next s)
    ∧ (∀ r rest, s.link.memPort = .read r :: rest → exec (.writeResponse none) s = .next s)
    ∧ (∀ w rest, s.link.memPort = .write w :: rest → exec (.readResponse none) s = .next s)
    ∧ (∀ (r : ReadResp) (rest : List Response) (i : Instr), s.link.delivering = none →
        ((i = .readResponse (some r) ∧ s.link.memPort = [] ∧ rest = [])
          ∨ (i = .readResponse none ∧ s.link.memPort = .read r :: rest)) →
        let e := s.link.table.find? fun x => x.tag == r.tag
        let good : Bool := match e with
          | some x => !r.error && r.data.length == x.beats.toNat + 1
          | none => false
        let t := { s with link := { s.link with
          memPort := rest, delivering := some { response := .read r, entry := e, staged := good, sent := 0 } } }
        exec i s = .next (if good then t else t.raise .memoryError))
    ∧ ∀ (w : WriteResp) (rest : List Response) (i : Instr), s.link.delivering = none →
        ((i = .writeResponse (some w) ∧ s.link.memPort = [] ∧ rest = [])
          ∨ (i = .writeResponse none ∧ s.link.memPort = .write w :: rest)) →
        exec i s = .next { s with link := { s.link with
          memPort := rest, delivering := some { response := .write w, entry := none, staged := false, sent := 0 } } })
  ∧ ∀ (before after : List Entry) (e : Entry), (∀ x ∈ before, x.tag ≠ e.tag) →
    (before ++ e :: after).find? (fun x => x.tag == e.tag) = some e
    ∧ dropOldest e.tag (before ++ e :: after) = before ++ after ∧ dropOldest e.tag before = before

/-- Delivery: a hold, or a delivery with nothing held, changes nothing; beats short of the last leave the response held; with the last one the response is gone and its entry, if it matched one, leaves the table, the contexts retire that may, and then an edit's wait that this ends goes on: into EDITING, or refused, with the commands behind it starting. A response to which no stage applies is delivered as received (R3, R12, R14 to R17, R55, R86, R87, R156, R171). -/
def Obligations.UnstagedResponsesAreDeliveredAsReceived : Prop :=
  ∀ (s : State), s.resetLow = false →
    exec (.responseDelivery 0) s = .next s
    ∧ (s.link.delivering = none → ∀ n, exec (.responseDelivery n) s = .next s)
    ∧ ∀ (d : Delivering) (n : Nat), s.link.delivering = some d → 1 ≤ n → d.sent ≤ (responseData d.response).length →
        let size := (responseData d.response).length
        (d.staged = false → ∃ t, exec (.responseDelivery n) s = .next t
          ∧ t.link.sysOut = some (match d.response with
              | .read r => { tag := r.tag, isWrite := false, error := r.error, count := BitVec.ofNat 5 r.data.length,
                             first := d.sent, beats := (r.data.drop d.sent).take n, final := decide (size ≤ d.sent + n) }
              | .write w => { tag := w.tag, isWrite := true, error := w.error, count := w.count, first := d.sent, beats := [],
                              final := true }))
        ∧ (d.sent + n < size → ∃ t, exec (.responseDelivery n) s = .next t
            ∧ t = { s with link := { s.link with delivering := some { d with sent := d.sent + n }, sysOut := t.link.sysOut } })
        ∧ (size ≤ d.sent + n → d.entry = none → ∃ t, exec (.responseDelivery n) s = .next t
            ∧ t = { s with link := { s.link with delivering := none, sysOut := t.link.sysOut } })
        ∧ (∀ e, size ≤ d.sent + n → d.entry = some e → ∃ t : State,
            t = { s with link := t.link, scan := { s.scan with slots := t.scan.slots } }
            ∧ t.link = { s.link with delivering := none, sysOut := t.link.sysOut, table := dropOldest e.tag s.link.table }
            ∧ (∀ k : Fin 2, (s.mayRetire t.link.table k → t.scan.slots[k] = none)
                ∧ (¬s.mayRetire t.link.table k → t.scan.slots[k] = s.scan.slots[k]))
            ∧ ((∀ x target, s.overlay.engine ≠ .waiting x target) → exec (.responseDelivery n) s = .next t)
            ∧ (∀ x target q rest, s.overlay.engine = .waiting x target → s.command.queue = q :: rest →
                ((∃ k : Fin 2, ∃ c, t.scan.slots[k] = some c ∧ c.bank = target) → exec (.responseDelivery n) s = .next t)
                ∧ ((∀ (k : Fin 2) c, t.scan.slots[k] = some c → c.bank ≠ target) →
                    (contentCheck x (s.overlay.spans target) = none → exec (.responseDelivery n) s
                      = .next { t with overlay := { s.overlay with engine := .editing x target } })
                    ∧ ∀ y, contentCheck x (s.overlay.spans target) = some y → y ≠ .ok → exec (.responseDelivery n) s
                      = .next ((({ t with overlay := { s.overlay with engine := .idle } } : State).recorded q y).thenRun rest))))

/-- Stage 1: the beats of a STATUS response delivered now, all of it or a part, carry the status words of the present where they lie in the status area and are as received elsewhere; offsets 0x200 and 0x210 read the identity and the counter, and an offset not listed reads 0 (R13, R169 to R171). -/
def Obligations.StatusBeatsAreSubstituted : Prop :=
  (∀ (s : State) (d : Delivering) (e : Entry) (r : ReadResp) (n : Nat), s.resetLow = false → s.link.delivering = some d →
    d.staged = true → d.sent ≤ r.data.length → d.entry = some e → e.cls = .status → d.response = .read r → 1 ≤ n →
    ∃ t o, exec (.responseDelivery n) s = .next t ∧ t.link.sysOut = some o ∧ o.tag = r.tag ∧ o.error = r.error
      ∧ o.isWrite = false ∧ o.count = BitVec.ofNat 5 r.data.length ∧ o.first = d.sent
      ∧ o.final = decide (r.data.length ≤ d.sent + n) ∧ o.beats.length = min n (r.data.length - d.sent)
      ∧ (∀ i, i < o.beats.length → o.beats.getD i 0 =
          (let a := beatAddrOf e.addr (d.sent + i)
           if s.pageBase + 0x200 ≤ a ∧ a < s.pageBase + 0x400 then s.statusWord (a - s.pageBase) else r.data.getD (d.sent + i) 0))
      ∧ (r.data.length ≤ d.sent + n → t.link.delivering = none ∧ t.link.table = dropOldest e.tag s.link.table))
  ∧ ∀ s : State, s.statusWord 0x200 = BitVec.ofNat 64 (0x0640 + 2 * 65536 + s.strap.toNat * 16777216)
      ∧ s.statusWord 0x210 = s.time.ms.setWidth 64
      ∧ ∀ o, (o = 0x2B8 ∨ 0x350 ≤ o) → s.statusWord o = 0

/-- The status words of the part, of time, commands, events, lines, alert, views, scan window and banks: every field in its bits with its encoding, and 0 in the bits a word does not assign (R41, R63, R169, R170, R189 and the tables of 10.3). -/
def Obligations.StatusWordsReportTheBlocks : Prop :=
  ∀ s : State,
    let f := fun (o lo n : Nat) => (s.statusWord o).toNat / 2 ^ lo % 2 ^ n
    let only := fun (o : Nat) (mask : Word) => s.statusWord o &&& ~~~mask = 0
    let bit := fun (b : Bool) => if b then 1 else 0
    (f 0x208 0 1 = bit s.command.running ∧ f 0x208 8 6 = s.link.table.length % 64
      ∧ f 0x208 16 2 = (if s.scan.slots[(0 : Fin 2)].isSome then 1 else 0) + (if s.scan.slots[(1 : Fin 2)].isSome then 1 else 0)
      ∧ only 0x208 0x33F01)
    ∧ (f 0x218 0 1 = bit s.time.lost ∧ f 0x218 1 1 = bit s.time.wasLost ∧ only 0x218 0x3)
    ∧ (f 0x220 0 16 = s.command.seq.toNat ∧ f 0x220 16 16 = s.command.lastSeq.toNat
      ∧ f 0x220 32 4 = (match s.command.lastResult with
          | none => 15 | some .ok => 0 | some .unknown => 1 | some .badArgument => 2 | some .notReady => 3 | some .inUse => 4
          | some .overlap => 5 | some .duplicate => 6 | some .full => 7 | some .lineFull => 8 | some .notFound => 9
          | some .length => 10)
      ∧ f 0x220 40 7 = s.command.queue.length % 128 ∧ f 0x220 48 1 = bit s.command.assembly.isSome
      ∧ (s.command.assembly = none → f 0x220 50 2 = 0)
      ∧ (∀ a, s.command.assembly = some a → f 0x220 50 2 = a.words.length % 4) ∧ only 0x220 0x000D7F0FFFFFFFFF)
    ∧ (f 0x228 0 16 = s.command.refused % 65536 ∧ f 0x228 16 16 = s.command.lost % 65536
      ∧ f 0x228 32 3 = (match s.command.lossCause with
          | none => 0 | some .partialBeat => 1 | some .outOfOrder => 2 | some .badLength => 3 | some .queueFull => 4)
      ∧ only 0x228 0x7FFFFFFFF)
    ∧ ((∀ k : Fin 14, f 0x230 k.val 1 = bit s.events[k].pending ∧ f 0x230 (16 + k.val) 1 = bit s.events[k].enabled
          ∧ f 0x230 (32 + k.val) 1 = bit s.events[k].urgent)
      ∧ f 0x230 48 1 = bit s.intU ∧ f 0x230 49 1 = bit s.intN ∧ only 0x230 0x00033FFF3FFF3FFF)
    ∧ ((∀ k : Fin 14, k.val < 8 → f 0x238 (8 * k.val) 8 = s.events[k].count % 256)
      ∧ (∀ k : Fin 14, 8 ≤ k.val → f 0x240 (8 * (k.val - 8)) 8 = s.events[k].count % 256) ∧ only 0x240 0x0000FFFFFFFFFFFF)
    ∧ ((∀ n : Fin 8, f 0x248 (4 * n.val) 2 = (match s.lines[n].config.function with
            | .input => 0 | .alert => 1 | .alertInv => 2 | .lamp => 3)
          ∧ f 0x248 (4 * n.val + 2) 1 = bit (s.raw n) ∧ f 0x248 (4 * n.val + 3) 1 = bit s.lines[n].debounced)
      ∧ (∀ n : Fin 9, f 0x248 (32 + n.val) 1 = bit (s.conditions.getLsbD n.val)) ∧ only 0x248 0x1FFFFFFFFFF)
    ∧ ((∀ n : Fin 8, s.rate.source = some n → f 0x250 0 4 = n.val) ∧ (s.rate.source = none → f 0x250 0 4 = 15)
      ∧ f 0x250 8 8 = s.rate.threshold % 256 ∧ f 0x250 16 8 = s.rate.running % 256 ∧ f 0x250 24 8 = s.rate.last % 256
      ∧ only 0x250 0xFFFFFF0F)
    ∧ (f 0x258 0 1 = bit s.scan.staleShown ∧ f 0x258 1 1 = bit s.scan.scanStall ∧ f 0x258 2 1 = bit s.alert.chime
      ∧ f 0x258 4 2 = (match s.alert.phase with | .idle => 0 | .on => 1 | .off => 2) ∧ f 0x258 8 1 = bit s.alert.silenced
      ∧ f 0x258 16 1 = bit (s.alert.record.contains .staleShown) ∧ f 0x258 17 1 = bit (s.alert.record.contains .scanStall)
      ∧ f 0x258 18 1 = bit (s.alert.record.contains .chime) ∧ f 0x258 24 1 = bit s.alertActive ∧ only 0x258 0x01070137)
    ∧ (f 0x260 0 4 = s.stack.length % 16
      ∧ (∀ e : Nat, e < 8 → (∀ x, s.stack.reverse[e]? = some x →
            f 0x260 (4 * e + 32) 3 = x.view.val ∧ f 0x260 (4 * e + 35) 1 = bit x.released)
          ∧ (s.stack.length ≤ e → f 0x260 (4 * e + 32) 4 = 0))
      ∧ only 0x260 0xFFFFFFFF0000000F)
    ∧ ((∀ e rest, s.stack = e :: rest → f 0x268 0 32 = e.entered.toNat) ∧ only 0x268 0xFFFFFFFF)
    ∧ ((∀ v : Fin 8, f 0x270 (8 * v.val) 1 = bit s.views[v].definition.isSome
          ∧ (s.StackOk → ∀ e ∈ s.stack, e.view = v → f 0x270 (8 * v.val + 1) 2 = if e.released then 3 else 2)
          ∧ ((∀ e ∈ s.stack, e.view ≠ v) → f 0x270 (8 * v.val + 1) 2 = bit (decide (v ≠ 0) && s.views[v].wanted))
          ∧ f 0x270 (8 * v.val + 3) 1 = bit s.views[v].inMatch
          ∧ f 0x270 (8 * v.val + 4) 2 = (match s.views[v].trigger with | .absent => 0 | .matching => 1 | .lingering _ => 2)
          ∧ f 0x270 (8 * v.val + 6) 1 = bit s.views[v].command)
      ∧ only 0x270 0x7F7F7F7F7F7F7F7F)
    ∧ (f 0x278 1 1 = bit s.scan.scanStall ∧ (s.scan.definition = none → only 0x278 0x2)
      ∧ (∀ d, s.scan.definition = some d → f 0x278 0 1 = 1 ∧ f 0x278 4 4 = d.tag.toNat ∧ f 0x278 8 12 = d.width % 4096
          ∧ f 0x278 20 11 = d.height % 2048 ∧ f 0x278 32 10 = d.limit % 1024 ∧ f 0x278 42 15 = d.stride % 32768)
      ∧ only 0x278 0x01FFFFFF7FFFFFF3)
    ∧ (let bank := fun (x : Bank) => match x with | .a => 0 | .b => 1
       let edit := fun (e : Edit) => match e with | .add _ => 1 | .remove _ _ _ => 2 | .clear => 3 | .copy => 4
       f 0x280 0 1 = bank s.overlay.active ∧ f 0x280 1 1 = bit s.overlay.flipWaiting
      ∧ (s.overlay.engine = .idle → f 0x280 2 6 = 0)
      ∧ (∀ e t, s.overlay.engine = .waiting e t → f 0x280 2 2 = 1 ∧ f 0x280 4 3 = edit e ∧ f 0x280 7 1 = bank t)
      ∧ (∀ e t, s.overlay.engine = .editing e t → f 0x280 2 2 = 2 ∧ f 0x280 4 3 = edit e ∧ f 0x280 7 1 = bank t)
      ∧ f 0x280 8 12 = s.overlay.bankA.length % 4096 ∧ f 0x280 20 12 = s.overlay.bankB.length % 4096
      ∧ f 0x280 32 24 = s.overlay.hatch.toNat ∧ only 0x280 0x00FFFFFFFFFFFFFF)

/-- The status words of the frame context slots and the cameras: every field in its bits with its encoding, 0 for a free slot and for an undefined camera but for its generation, and 0 in the bits a word does not assign (R41, R63, R189 and the tables of 10.3). -/
def Obligations.StatusWordsReportContextsAndCameras : Prop :=
  ∀ s : State,
    let f := fun (o lo n : Nat) => (s.statusWord o).toNat / 2 ^ lo % 2 ^ n
    let only := fun (o : Nat) (mask : Word) => s.statusWord o &&& ~~~mask = 0
    let bit := fun (b : Bool) => if b then 1 else 0
    (∀ k : Fin 2,
      let o := 0x288 + 0x18 * k.val
      (s.scan.slots[k] = none → s.statusWord o = 0 ∧ s.statusWord (o + 8) = 0 ∧ s.statusWord (o + 16) = 0)
      ∧ ∀ c, s.scan.slots[k] = some c →
          (f o 0 1 = 1 ∧ f o 1 1 = bit c.opened ∧ f o 2 1 = bit (decide (s.newestOpen = some k)) ∧ f o 4 3 = c.view.val
            ∧ f o 7 1 = (match c.bank with | .a => 0 | .b => 1) ∧ f o 8 8 = c.mask.toNat ∧ f o 16 6 = s.refCount k % 64
            ∧ f o 32 32 = c.frame.toNat ∧ only o 0xFFFFFFFF003FFFF7)
          ∧ (f (o + 8) 0 32 = c.start.toNat ∧ f (o + 8) 32 24 = c.hatch.toNat ∧ only (o + 8) 0x00FFFFFFFFFFFFFF)
          ∧ ((∀ i : Nat, i < 4 → (c.panes.length ≤ i → f (o + 16) (16 * i) 16 = 0)
                ∧ ∀ e, c.panes[i]? = some e → f (o + 16) (16 * i) 1 = 1 ∧ f (o + 16) (16 * i + 1) 4 = e.pane.val
                    ∧ f (o + 16) (16 * i + 5) 2 = (match e.judgement with | .live => 1 | .stale => 2 | .dark => 3)
                    ∧ f (o + 16) (16 * i + 7) 1 = bit e.torn ∧ f (o + 16) (16 * i + 8) 1 = bit e.mismatch
                    ∧ (e.lock = none → f (o + 16) (16 * i + 9) 6 = 0)
                    ∧ ∀ l, e.lock = some l → f (o + 16) (16 * i + 9) 2 = l.buffer % 4
                        ∧ f (o + 16) (16 * i + 11) 3 = l.camera.val ∧ f (o + 16) (16 * i + 14) 1 = 1)
            ∧ only (o + 16) 0x7FFF7FFF7FFF7FFF))
    ∧ ∀ c : Fin 6,
      let o := 0x2C0 + 16 * c.val
      let p := 0x320 + 8 * c.val
      f o 16 16 = s.cameras[c].generation.toNat ∧ only p 0xFFFFFFFF
      ∧ (s.cameras[c].record = none → only o 0xFFFF0000 ∧ s.statusWord (o + 8) = 0 ∧ s.statusWord p = 0)
      ∧ ∀ r, s.cameras[c].record = some r → r.Ok →
          f o 0 1 = 1 ∧ f o 1 2 = (match r.state with | .noFrame => 0 | .fresh => 1 | .late => 2)
          ∧ (r.newest = none → f o 4 2 = 0 ∧ f o 7 1 = 0 ∧ s.statusWord (o + 8) = 0)
          ∧ (∀ k, r.newest = some k → f o 4 2 = k ∧ f o 7 1 = 1
              ∧ ∀ q m, r.buffers[k]? = some (.complete q m) → f (o + 8) 0 32 = q.toNat ∧ f (o + 8) 32 32 = m.toNat)
          ∧ (∀ k : Nat, k < 4 → f o (32 + 2 * k) 2 = (match r.buffers[k]? with
              | none => 0 | some .empty => 0 | some (.filling _ _) => 1 | some (.complete _ _) => 2 | some (.corrupt _ _) => 3))
          ∧ (r.lastCorruption = none → f o 40 4 = 0 ∧ f o 44 2 = 0 ∧ s.statusWord p = 0)
          ∧ (∀ x, r.lastCorruption = some x → f o 40 4 = (match x.cause with
                | .abandoned => 1 | .short => 2 | .stray => 3 | .foreign => 4)
              ∧ f o 44 2 = x.buffer % 4 ∧ f p 0 32 = x.seq.toNat)
          ∧ f o 48 3 = r.geo.ring ∧ f o 52 4 = r.geo.owner.toNat ∧ only o 0x00F73FFFFFFF00B7

/-- Stages 2 and 3, on all the beats or on the part delivered now: a response whose entry names a live context is reversed pixel by pixel when its entry is mirrored, then each pixel is composed from that context and the spans its bank holds; one that names no context and is not redirected is delivered as received (R13, R77, R98, R99, R104, R171). -/
def Obligations.ScanResponsesAreReversedAndComposed : Prop :=
  ∀ (s : State) (d : Delivering) (e : Entry) (r : ReadResp) (n : Nat), s.resetLow = false → s.link.delivering = some d →
    d.staged = true → d.sent ≤ r.data.length → d.entry = some e → e.cls ≠ .status → d.response = .read r → 1 ≤ n →
    ∃ t o, exec (.responseDelivery n) s = .next t ∧ t.link.sysOut = some o ∧ o.tag = r.tag ∧ o.error = r.error
      ∧ o.isWrite = false ∧ o.count = BitVec.ofNat 5 r.data.length ∧ o.first = d.sent
      ∧ o.final = decide (r.data.length ≤ d.sent + n) ∧ o.beats.length = min n (r.data.length - d.sent)
      ∧ (r.data.length ≤ d.sent + n → t.link.delivering = none ∧ t.link.table = dropOldest e.tag s.link.table)
      ∧ (e.context = none → e.redirect = none → o.beats = (r.data.drop d.sent).take n)
      ∧ ∀ k c, e.context = some k → s.scan.slots[k] = some c → ∀ j, j < o.beats.length →
          let i := d.sent + j
          let bank := s.overlay.spans c.bank
          let offset := byteAddr e.addr + 8 * i - c.base
          let line := offset / c.stride
          let column := offset % c.stride / 4
          let mirrored := (e.redirect.map (·.mirror)) = some true
          let here := r.data.getD i 0
          let there := r.data.getD (r.data.length - 1 - i) 0
          let left := if mirrored then there.extractLsb' 32 32 else here.extractLsb' 0 32
          let right := if mirrored then there.extractLsb' 0 32 else here.extractLsb' 32 32
          (o.beats.getD j 0).extractLsb' 0 32 = c.composePixel bank line column left
            ∧ (o.beats.getD j 0).extractLsb' 32 32 = c.composePixel bank line (column + 1) right

/-- A composed pixel: outside the picture area it is unchanged; inside, the spans of the context's bank that cover it on the layers of the mask apply in layer order, each to the result of the one before, and then the hatch mixes over a pixel of a STALE or DARK pane on the pattern. `made n` is the pixel after the layers below n (R99, R100, R102). -/
def Obligations.PixelsAreComposed : Prop :=
  ∀ (c : Context) (bank : List Span) (line column : Nat) (p : Pixel), BankOk bank →
    ((c.width ≤ column ∨ c.height ≤ line) → c.composePixel bank line column p = p)
    ∧ ∀ made : Nat → Pixel, column < c.width → line < c.height → made 0 = p →
        (∀ n : Fin 8,
          (∀ x ∈ bank, c.mask.getLsbD n.val = true → x.layer = n → x.line = line → x.x0 ≤ column → column ≤ x.x1 →
            made (n.val + 1) = combine x.mode.apply (made n.val) x.colour)
          ∧ ((c.mask.getLsbD n.val = false ∨ ∀ x ∈ bank, ¬(x.layer = n ∧ x.line = line ∧ x.x0 ≤ column ∧ column ≤ x.x1)) →
            made (n.val + 1) = made n.val)) →
        let hatched := (column + line) / 8 % 2 = 0 ∧ ∃ e ∈ c.panes, e.judgement ≠ .live ∧ e.geo.top ≤ line
          ∧ line < e.geo.top + e.geo.height ∧ e.geo.left ≤ column ∧ column < e.geo.left + e.geo.width
        (hatched → c.composePixel bank line column p = combine SpanMode.mix.apply (made 8) c.hatch)
        ∧ (¬hatched → c.composePixel bank line column p = made 8)

/-- R101: the components of SOLID, MIX and SHADE; the unused byte passes every mode and the hatch; SHADE twice quarters; MIX of the pixel's own colour leaves it. -/
def Obligations.SpanModesChangeComponents : Prop :=
  (∀ (m : SpanMode) (p : Pixel) (c : Colour) (lo : Nat), (lo = 0 ∨ lo = 8 ∨ lo = 16) →
    ((combine m.apply p c).extractLsb' lo 8).toNat =
      (match m with
       | .solid => (c.extractLsb' lo 8).toNat
       | .mix => ((p.extractLsb' lo 8).toNat + (c.extractLsb' lo 8).toNat) / 2
       | .shade => (p.extractLsb' lo 8).toNat / 2))
  ∧ (∀ (m : SpanMode) (p : Pixel) (c : Colour), (combine m.apply p c).extractLsb' 24 8 = p.extractLsb' 24 8)
  ∧ (∀ (x : Context) (line column : Nat) (p : Pixel), (x.applyHatch line column p).extractLsb' 24 8 = p.extractLsb' 24 8)
  ∧ (∀ (p : Pixel) (c c' : Colour) (lo : Nat), (lo = 0 ∨ lo = 8 ∨ lo = 16) →
      ((combine SpanMode.shade.apply (combine SpanMode.shade.apply p c) c').extractLsb' lo 8).toNat
        = (p.extractLsb' lo 8).toNat / 2 / 2)
  ∧ ∀ (p : Pixel) (c : Colour), c = p.extractLsb' 0 24 → combine SpanMode.mix.apply p c = p

/-! ### Time and timers -/

/-- A tick advances the counter by one and returns the period counter to 0, and with no expiry owed changes nothing else; while the clock is lost it changes nothing. Expiries owed are taken before the counter advances or stops: with one timer due, the tick or the loss is that of the state after its expiry; with several, of the state after theirs, one after another in some order (logs 3 and 4). Clock loss sets the condition and the flag and raises CLOCK_LOST; an edge ends the condition and leaves the flag and the kind (R20, R22, R24, R174). -/
def Obligations.TicksAndClockLoss : Prop :=
  (∀ s : State, s.resetLow = false →
    (s.time.lost = false → ∃ t, exec .millisecondTick s = .next t ∧ t.time.ms = s.time.ms + 1 ∧ t.time.period = 0 ∧ t.time.lost = false)
    ∧ (s.time.lost = false → s.dueTimers = [] →
        exec .millisecondTick s = .next { s with time := { s.time with ms := s.time.ms + 1, period := 0 } })
    ∧ (s.time.lost = true → exec .millisecondTick s = .next s))
  ∧ (∀ (s : State) (edges : Nat), s.resetLow = false → s.time.lost = false →
    let ticked := fun u : State => ({ u with time := { u.time with ms := u.time.ms + 1, period := 0 } } : State)
    let stopped := fun u : State => ({ u with time := { u.time with
      lost := true, wasLost := true, period := min 999 (max u.time.period edges) } } : State).raise .clockLost
    (∀ i : TimerId, s.dueTimers = [i] → ∃ u, exec i.event s = .next u ∧ exec .millisecondTick s = .next (ticked u)
      ∧ exec (.clockLoss edges) s = .next (stopped u))
    ∧ ∃ l u, l.Perm s.dueTimers ∧ s.ExpiresTo l u ∧ exec .millisecondTick s = .next (ticked u)
      ∧ exec (.clockLoss edges) s = .next (stopped u))
  ∧ ∀ (s : State) (edges : Nat) (rising : Bool), s.resetLow = false →
    (s.time.lost = false → ∃ t, exec (.clockLoss edges) s = .next t ∧ t.time.lost = true ∧ t.time.wasLost = true
      ∧ t.time.ms = s.time.ms ∧ t.events[(10 : Fin 14)].pending = true)
    ∧ (s.time.lost = false → s.dueTimers = [] → ∃ t, exec (.clockLoss edges) s = .next t
        ∧ t.events[(10 : Fin 14)] = s.events[(10 : Fin 14)].occur ∧ t = { s with time := t.time, events := t.events })
    ∧ (s.time.lost = true → ∃ t, exec (.clockReturn rising) s = .next t ∧ t.time.lost = false
        ∧ t.time.wasLost = s.time.wasLost ∧ t.time.ms = s.time.ms ∧ t = { s with time := t.time })

/-- A timer that is not due does not expire: stopped, aimed elsewhere, or standing still during clock loss (R21, R24). The lateness timer's expiry takes a FRESH camera to LATE and raises CAMERA_LATE; the pulse timer's changes ON and OFF; the chime timer's makes CHIME absent: the phase goes idle unless SCAN_STALL is present, and CHIME leaves the silence record, which ends the silence when it empties (R37, R39, R118, R119, R122). -/
def Obligations.TimersExpireWhenDue : Prop :=
  (∀ (s : State),
    (∀ n, s.due s.lines[n].timer = false → exec (.debounceTimerExpiry n) s = .next s)
    ∧ (s.due s.rate.timer = false → exec .rateWindowExpiry s = .next s)
    ∧ (∀ c, (∀ r, s.cameras[c].record = some r → s.due r.lateness = false) → exec (.latenessTimerExpiry c) s = .next s)
    ∧ (s.due s.scan.stallTimer = false → exec .scanStallTimerExpiry s = .next s)
    ∧ (∀ v, (∀ a, s.views[v].trigger = .lingering a → s.due (some a) = false) → exec (.lingerTimerExpiry v) s = .next s)
    ∧ (s.due s.alert.pulseTimer = false → exec .pulseTimerExpiry s = .next s)
    ∧ (s.due s.alert.chimeTimer = false → exec .chimeTimerExpiry s = .next s)
    ∧ (s.time.lost = true → s.dueTimers = []))
  ∧ ∀ s : State,
    (∀ (c : Fin 6) (r : CaptureRec), s.cameras[c].record = some r → s.due r.lateness = true → r.state = .fresh →
      exec (.latenessTimerExpiry c) s
        = .next ((s.setCamera c { s.cameras[c] with record := some { r with state := .late, lateness := none } }).raise .cameraLate))
    ∧ (s.due s.alert.pulseTimer = true → exec .pulseTimerExpiry s = .next { s with
      alert := { s.alert with
        phase := (match s.alert.phase with | .on => .off | .off => .on | .idle => .idle),
        pulseTimer := some (s.time.ms + 250) } })
    ∧ (s.due s.alert.chimeTimer = true → s.alert.chime = true →
        let rest := s.alert.record.filter (· ≠ .chime)
        let recorded := s.alert.silenced && s.alert.record.contains .chime
        exec .chimeTimerExpiry s = .next { s with
          alert := { chime := false, chimeTimer := none,
                     phase := if s.scan.scanStall then s.alert.phase else .idle,
                     pulseTimer := if s.scan.scanStall then s.alert.pulseTimer else none,
                     silenced := if recorded then !rest.isEmpty else s.alert.silenced,
                     record := if recorded then rest else s.alert.record } })

/-- The scan stall timer's expiry: SCAN_STALL becomes true and is raised, the pulse starts when no PULSE cause was present, a silence that does not record it ends, and a flip that waits takes effect after that and completes, and the commands behind it start (R60, R94, R95, R119, R122, R156). -/
def Obligations.ScanStallExpiry : Prop :=
  ∀ s : State, s.due s.scan.stallTimer = true → s.scan.scanStall = false →
    (s.overlay.flipWaiting = false → ∃ t, exec .scanStallTimerExpiry s = .next t
      ∧ t = { s with scan := { s.scan with stallTimer := none, scanStall := true }, events := t.events, alert := t.alert }
      ∧ t.events[(4 : Fin 14)] = s.events[(4 : Fin 14)].occur
      ∧ (∀ i : Fin 14, i ≠ 4 → t.events[i] = s.events[i])
      ∧ t.alert.chime = s.alert.chime ∧ t.alert.chimeTimer = s.alert.chimeTimer
      ∧ (s.alert.chime = false → t.alert.phase = .on ∧ t.alert.pulseTimer = some (s.time.ms + 250))
      ∧ (s.alert.chime = true → t.alert.phase = s.alert.phase ∧ t.alert.pulseTimer = s.alert.pulseTimer)
      ∧ (Cause.scanStall ∉ s.alert.record → t.alert.silenced = false))
    ∧ (∀ q rest, s.overlay.flipWaiting = true → s.command.queue = q :: rest →
        ∃ t, exec .scanStallTimerExpiry { s with overlay := { s.overlay with flipWaiting := false } } = .next t
          ∧ exec .scanStallTimerExpiry s = .next (((({ t with
              overlay := { s.overlay with active := s.overlay.active.other, flipWaiting := false } } : State).raise
                .bankFlipped).recorded q .ok).thenRun rest))

/-- The linger timer's expiry ends the trigger hold: a view held by command stays, a buried one is marked, one that waits stops waiting, the top is popped with the marked entries under it and the views that wait above the new top are pushed (R132, R135, R140 to R142). -/
def Obligations.LingerExpiryEndsTheHold : Prop :=
  ∀ (s : State) (v : Fin 8) (a : Millis), s.views[v].trigger = .lingering a → s.due (some a) = true →
    (s.views[v].command = true →
      exec (.lingerTimerExpiry v) s = .next { s with views := s.views.set v { s.views[v] with trigger := .absent } })
    ∧ (s.views[v].command = false → s.onStack v = false →
        exec (.lingerTimerExpiry v) s = .next { s with views := s.views.set v { s.views[v] with trigger := .absent } })
    ∧ (s.views[v].command = false → s.onStack v = true → s.topView ≠ v →
        exec (.lingerTimerExpiry v) s = .next { s with
          views := s.views.set v { s.views[v] with trigger := .absent },
          stack := s.stack.map fun e => if e.view = v then { e with released := true } else e })
    ∧ (s.views[v].command = false → s.topView = v → s.ArbiterOk → ∃ t, exec (.lingerTimerExpiry v) s = .next t
        ∧ t.onStack v = false ∧ t.views = s.views.set v { s.views[v] with trigger := .absent }
        ∧ (∀ e ∈ s.stack, (t.onStack e.view = true → e ∈ t.stack))
        ∧ t = { s with views := t.views, stack := t.stack })
    ∧ (v ≠ 0 → s.views[v].command = false → s.topView = v → exec (.lingerTimerExpiry v) s = .next { s with
        views := s.views.set v { s.views[v] with trigger := .absent },
        stack := stackAfterPop s.time.ms (fun w => w ≠ v && s.views[w].wanted) s.stack })

/-- A raw level change of an input with a debounce starts or stops the timer, without one is followed at once; the timer's expiry gives the debounced level the raw level, counts a rise of the rate source, raises LINE_CHANGE as the edge mode selects, and hands a changed condition bit to the views. What the outside presents on a line without a change of the raw level, on an output line, or while RESET_N is low changes nothing else. The raw level: undriven with the pull-up on it is high, an output line has the level it drives unless overpowered, and any other line has what the outside presents (R109 to R112, R115). -/
def Obligations.DebouncedLevelsFollow : Prop :=
  (∀ (s : State) (n : Fin 8) (o : Outside),
    (s.resetLow = true ∨ s.lines[n].config.function ≠ .input ∨ pinLevel o none s.lines[n].config.pullUp = s.raw n) →
    exec (.lineLevelChange n o) s = .next { s with lines := s.lines.set n { s.lines[n] with outside := o } })
  ∧ ∀ (s : State) (n : Fin 8), s.resetLow = false → s.lines[n].config.function = .input →
    (∀ o : Outside, pinLevel o none s.lines[n].config.pullUp ≠ s.raw n →
      let l : VehicleLine := { s.lines[n] with outside := o }
      let raw := pinLevel o none s.lines[n].config.pullUp
      (raw = l.debounced →
        exec (.lineLevelChange n o) s = .next { s with lines := s.lines.set n { l with timer := none } })
      ∧ (raw ≠ l.debounced → 1 ≤ l.config.debounce →
          exec (.lineLevelChange n o) s = .next { s with
            lines := s.lines.set n { l with timer := some (s.time.ms + BitVec.ofNat 32 l.config.debounce) } })
      ∧ (raw ≠ l.debounced → l.config.debounce = 0 →
          exec (.lineLevelChange n o) s = .next (s.levelFollowed n l)))
    ∧ (s.due s.lines[n].timer = true → s.raw n ≠ s.lines[n].debounced →
        exec (.debounceTimerExpiry n) s = .next (s.levelFollowed n s.lines[n]))
  ∧ ∀ (s : State) (n : Fin 8),
    let l := s.lines[n]
    (s.resetLow = true → s.raw n = l.outside.level)
    ∧ (s.resetLow = false → l.config.function = .input →
        (l.config.pullUp = true → l.outside.grip = .floating → s.raw n = true)
        ∧ ((l.config.pullUp = false ∨ l.outside.grip ≠ .floating) → s.raw n = l.outside.level))
    ∧ (s.resetLow = false → l.config.function ≠ .input →
        (l.outside.grip = .overpowering → s.raw n = l.outside.level)
        ∧ (l.outside.grip ≠ .overpowering → s.drive n = some (s.raw n)))
    ∧ ∀ (o : Outside) (up : Bool), pinLevel o none up = if o.grip = .floating ∧ up = true then true else o.level

/-- The rate window ends: the last count, K8 against the threshold, a fresh window. SET_RATE: a source that is no input line is refused, else a fresh window with both counts 0 and K8 0. A K8 that changes reaches the views, one that keeps its value does not (R114, R115). -/
def Obligations.RateInput : Prop :=
  (∀ s : State, s.due s.rate.timer = true →
    let rate : Rate := { s.rate with last := s.rate.running, k8 := decide (s.rate.running < s.rate.threshold), running := 0,
                                     timer := some (s.time.ms + 250) }
    exec .rateWindowExpiry s = .next (s.heard { s with rate := rate })
    ∧ (s.rate.k8 = decide (s.rate.running < s.rate.threshold) → exec .rateWindowExpiry s = .next { s with rate := rate }))
  ∧ ∀ (s : State) (source : BitVec 4) (threshold : BitVec 8), s.Ready →
    let rate := fun (x : Option (Fin 8)) => (
      { source := x, threshold := threshold.toNat, running := 0, last := 0, timer := x.map fun _ => s.time.ms + 250,
        k8 := false } : Rate)
    let sets := fun (x : Option (Fin 8)) =>
      exec (.setRate 1 source threshold) s = .next ((s.heard { s with rate := rate x }).finished .ok)
      ∧ (s.rate.k8 = false → exec (.setRate 1 source threshold) s = .next (({ s with rate := rate x } : State).finished .ok))
    (source = 15 → sets none)
    ∧ (∀ n : Fin 8, n.val = source.toNat → s.lines[n].config.function = .input → sets (some n))
    ∧ (∀ n : Fin 8, n.val = source.toNat → s.lines[n].config.function ≠ .input →
        exec (.setRate 1 source threshold) s = .next (s.finished .badArgument))
    ∧ (8 ≤ source.toNat → source ≠ 15 → exec (.setRate 1 source threshold) s = .next (s.finished .badArgument))

/-! ### The edit engine -/

/-- The completion of an edit: the target takes its new contents as one change, the command completes OK, the engine is IDLE, and the commands behind it start at the same event; without an edit in EDITING nothing happens (R88 to R92). An edit that waits goes on when its target is no longer referenced: into EDITING when its content checks pass, else refused with the code of R89 or R90, and the commands behind it start; while the target is referenced it waits (R86, R87, R156, R159). -/
def Obligations.EditsWaitAndComplete : Prop :=
  (∀ (s : State), s.resetLow = false →
    (∀ (e : Edit) (target : Bank) (q : Queued) (rest : List Queued), s.overlay.engine = .editing e target →
      s.command.queue = q :: rest →
      ∃ o : Overlay, exec .editCompletion s = .next ((({ s with overlay := o } : State).recorded q .ok).thenRun rest)
        ∧ o.engine = .idle ∧ o.active = s.overlay.active ∧ o.hatch = s.overlay.hatch
        ∧ o.flipWaiting = s.overlay.flipWaiting ∧ o.spans target.other = s.overlay.spans target.other
        ∧ (match e with
            | .add x => ∀ y, y ∈ o.spans target ↔ y = x ∨ y ∈ s.overlay.spans target
            | .remove layer line x0 => o.spans target = (s.overlay.spans target).filter fun y => !y.hasKey layer line x0
            | .clear => o.spans target = []
            | .copy => o.spans target = s.overlay.spans target.other))
    ∧ ((∀ e target, s.overlay.engine ≠ .editing e target) → exec .editCompletion s = .next s))
  ∧ ∀ (s : State) (e : Edit) (target : Bank) (q : Queued) (rest : List Queued), s.resetLow = false →
    s.overlay.engine = .waiting e target → s.command.queue = q :: rest →
    ((∃ k : Fin 2, ∃ c, s.scan.slots[k] = some c ∧ c.bank = target) → exec .editWaitEnd s = .next s)
    ∧ ((∀ (k : Fin 2) c, s.scan.slots[k] = some c → c.bank ≠ target) →
        (contentCheck e (s.overlay.spans target) = none →
          exec .editWaitEnd s = .next { s with overlay := { s.overlay with engine := .editing e target } })
        ∧ (∀ r, contentCheck e (s.overlay.spans target) = some r → r ≠ .ok → exec .editWaitEnd s
            = .next ((({ s with overlay := { s.overlay with engine := .idle } } : State).recorded q r).thenRun rest)))

/-- The content checks of ADD_SPAN in their order: DUPLICATE for the same key, OVERLAP for a shared column in the layer on the line, LINE_FULL at 24 spans on the line, FULL at 2048 spans; REMOVE_SPAN is NOT_FOUND without a span of its key; CLEAR_BANK and COPY_BANK have none (R89 to R92). -/
def Obligations.ContentChecks : Prop :=
  ∀ bank : List Span, (∀ y ∈ bank, y.Ok) →
    (∀ x : Span, x.Ok →
      let sameKey := ∃ y ∈ bank, y.line = x.line ∧ y.x0 = x.x0 ∧ y.layer = x.layer
      let shares := ∃ y ∈ bank, y.line = x.line ∧ y.layer = x.layer
        ∧ ∃ column, y.x0 ≤ column ∧ column ≤ y.x1 ∧ x.x0 ≤ column ∧ column ≤ x.x1
      let lineFull := 24 ≤ bank.countP fun y => y.line = x.line
      (sameKey → contentCheck (.add x) bank = some .duplicate)
      ∧ (¬sameKey → shares → contentCheck (.add x) bank = some .overlap)
      ∧ (¬sameKey → ¬shares → lineFull → contentCheck (.add x) bank = some .lineFull)
      ∧ (¬sameKey → ¬shares → ¬lineFull → 2048 ≤ bank.length → contentCheck (.add x) bank = some .full)
      ∧ (¬sameKey → ¬shares → ¬lineFull → bank.length < 2048 → contentCheck (.add x) bank = none))
    ∧ (∀ (layer : Fin 8) (line x0 : Nat),
        let found := ∃ y ∈ bank, y.line = line ∧ y.x0 = x0 ∧ y.layer = layer
        (found → contentCheck (.remove layer line x0) bank = none)
        ∧ (¬found → contentCheck (.remove layer line x0) bank = some .notFound))
    ∧ contentCheck .clear bank = none ∧ contentCheck .copy bank = none

/-- What ADD_SPAN, REMOVE_SPAN, CLEAR_BANK and COPY_BANK do when they start: a bad argument is refused at once, a referenced target makes the engine WAIT, a content check that fails is refused, and otherwise EDITING begins (R86, R89 to R92). FLIP_BANK waits in RUN with a live context and no scan stall, and otherwise takes effect at once (R93, R95); SET_HATCH sets the hatch colour and changes nothing else (R97). -/
def Obligations.OverlayCommandsStart : Prop :=
  (∀ (s : State), s.Ready →
    let target := s.overlay.active.other
    let begins := fun (c : Cmd) (e : Edit) =>
      (s.referenced target = true → exec (c.event c.length) s
        = .next (({ s with overlay := { s.overlay with engine := .waiting e target } } : State).started (encodeCommand c.length c)))
      ∧ (s.referenced target = false → contentCheck e (s.overlay.spans target) = none → exec (c.event c.length) s
        = .next (({ s with overlay := { s.overlay with engine := .editing e target } } : State).started (encodeCommand c.length c)))
      ∧ (∀ r, r ≠ .ok → s.referenced target = false → contentCheck e (s.overlay.spans target) = some r →
          exec (c.event c.length) s = .next (({ s with overlay := { s.overlay with engine := .idle } } : State).finished r))
    begins .clearBank .clear ∧ begins .copyBank .copy
    ∧ (∀ a : KeyArgs, (a.line.toNat ≤ 1079 → begins (.removeSpan a) (.remove a.layer.toFin a.line.toNat a.x0.toNat))
        ∧ (1079 < a.line.toNat → exec (.removeSpan 1 a) s = .next (s.finished .badArgument)))
    ∧ (∀ a : SpanArgs, ((a.mode = 3 ∨ 1079 < a.line.toNat ∨ a.x1.toNat < a.x0.toNat) →
          exec (.addSpan 2 a) s = .next (s.finished .badArgument))
        ∧ (a.mode ≠ 3 → a.line.toNat ≤ 1079 → a.x0.toNat ≤ a.x1.toNat →
            begins (.addSpan a) (.add
              { layer := a.layer.toFin, line := a.line.toNat, x0 := a.x0.toNat, x1 := a.x1.toNat, colour := a.colour,
                mode := if a.mode = 0 then .solid else if a.mode = 1 then .mix else .shade }))))
  ∧ ∀ s : State, s.Ready →
    let live := ∃ k : Fin 2, s.scan.slots[k].isSome = true
    ((s.command.running = true ∧ live ∧ s.scan.scanStall = false) → exec (.flipBank 1) s
      = .next (({ s with overlay := { s.overlay with flipWaiting := true } } : State).started (encodeCommand 1 .flipBank)))
    ∧ (¬(s.command.running = true ∧ live ∧ s.scan.scanStall = false) → exec (.flipBank 1) s
      = .next ((({ s with overlay := { s.overlay with active := s.overlay.active.other, flipWaiting := false } } : State).raise
          .bankFlipped).finished .ok))
    ∧ ∀ colour : Colour,
        exec (.setHatch 1 colour) s = .next (({ s with overlay := { s.overlay with hatch := colour } } : State).finished .ok)

/-! ### Operating state and windows -/

/-- RUN: nothing in RUN, refused without a scan window, else RUN is entered and the scan stall timer started (R61, R162). BYPASS: nothing in BYPASS, else RUN is left: the stall timer stopped, both conditions false, every context closed and retired unless an entry names it (R62, R163). -/
def Obligations.RunAndBypass : Prop :=
  (∀ s : State, s.Ready →
    (s.command.running = true → exec (.run 1) s = .next (s.finished .ok))
    ∧ (s.command.running = false → s.scan.definition = none → exec (.run 1) s = .next (s.finished .notReady))
    ∧ (∀ d, s.command.running = false → s.scan.definition = some d → exec (.run 1) s
        = .next ((({ s with
            command := { s.command with running := true },
            scan := { s.scan with stallTimer := some (s.time.ms + BitVec.ofNat 32 d.limit) } } : State)).finished .ok)))
  ∧ ∀ s : State, s.Ready →
    (s.command.running = false → exec (.bypass 1) s = .next (s.finished .ok))
    ∧ (s.command.running = true → ∃ t, exec (.bypass 1) s = .next t
        ∧ t = { s with scan := t.scan, alert := t.alert, command := t.command }
        ∧ t.command = { s.command with running := false, seq := s.command.seq + 1, lastSeq := s.command.seq + 1,
                                       lastResult := some .ok }
        ∧ t.scan.stallTimer = none ∧ t.scan.scanStall = false ∧ t.scan.staleShown = false
        ∧ t.scan.definition = s.scan.definition ∧ t.scan.frame = s.scan.frame ∧ t.scan.lastShown = s.scan.lastShown
        ∧ (∀ k : Fin 2, t.scan.slots[k]
            = if s.refCount k = 0 then none else s.scan.slots[k].map fun c => { c with opened := false })
        ∧ t.alert.chime = s.alert.chime ∧ t.alert.chimeTimer = s.alert.chimeTimer
        ∧ (s.AlertOk → t.AlertOk))

/-- SOFT_RESET returns every definition and working state to its reset value, keeps the command records, the Time Base and the reads in flight, and raises nothing; a context with reads in flight is closed, its locks set apart, and keeps the rest (R40, R42, R62, R64, R107, R125, R148, R164, R165, R184). V0's trigger mask, values and linger are the model's (log 11), a pin's level log 10. -/
def Obligations.SoftResetGivesTheResetValues : Prop :=
  ∀ s : State, s.Ready → s.ScanOk → ∃ t, exec (.softReset 1) s = .next t
    ∧ t.resetLow = false ∧ t.strap = s.strap ∧ t.link = s.link ∧ t.time = s.time
    ∧ (∀ c : Fin 6, t.cameras[c] = { generation := s.cameras[c].generation + 1, record := none })
    ∧ t.scan.definition = none ∧ t.scan.lastShown = none ∧ t.scan.stallTimer = none ∧ t.scan.scanStall = false
    ∧ t.scan.staleShown = false ∧ t.scan.frame = s.scan.frame
    ∧ (∀ k : Fin 2, t.isOpen k = false ∧ (t.scan.slots[k].isSome = true ↔ s.scan.slots[k].isSome = true ∧ 0 < s.refCount k))
    ∧ (∀ k : Fin 2, t.scan.slots[k] = if s.refCount k = 0 then none else s.scan.slots[k].map fun x =>
        { x with opened := false, panes := x.panes.map fun e => { e with lock := e.lock.map fun l => { l with current := false } } })
    ∧ (∀ p : Fin 16, t.panes[p] = none) ∧ t.overlay = State.reset.overlay
    ∧ (∀ n : Fin 8, t.lines[n] = { config := LineConfig.reset, outside := s.lines[n].outside,
                                   debounced := s.lines[n].outside.level, timer := none })
    ∧ t.rate = State.reset.rate ∧ t.alert = State.reset.alert ∧ t.views = State.reset.views
    ∧ t.stack = [{ view := 0, released := false, entered := s.time.ms }]
    ∧ t.command = { s.command with running := false, seq := s.command.seq + 1, lastSeq := s.command.seq + 1,
                                   lastResult := some .ok }
    ∧ (∀ i : Fin 14, t.events[i] = { pending := decide (i = 10) && s.time.lost,
                                     count := if i = 10 ∧ s.time.lost = true then 1 else 0, enabled := false, urgent := false })

/-- SET_SCAN: IN_USE in RUN, then the ranges of R43, the wrap and the overlap, and else the new definition (R5, R43, R44). -/
def Obligations.SetScanDefinesTheWindow : Prop :=
  ∀ (s : State) (a : ScanArgs), s.Ready →
    let base := a.base.toNat
    let size := a.stride.toNat * a.height.toNat
    let good := base % 8 = 0 ∧ a.width.toNat % 2 = 0 ∧ 64 ≤ a.width.toNat ∧ a.width.toNat ≤ 2048
      ∧ 16 ≤ a.height.toNat ∧ a.height.toNat ≤ 1080 ∧ a.stride.toNat % 8 = 0 ∧ a.width.toNat * 4 ≤ a.stride.toNat
      ∧ a.stride.toNat ≤ 16384 ∧ 10 ≤ a.stall.toNat ∧ a.stall.toNat ≤ 1000 ∧ base + size ≤ 2 ^ 32
    let meets := ∃ x, base ≤ x ∧ x < base + size ∧ (s.inPage x ∨ ∃ c : Fin 6, s.inCapture c x)
    let d : ScanDef := { tag := a.tag, base := base, stride := a.stride.toNat, width := a.width.toNat,
                         height := a.height.toNat, limit := a.stall.toNat }
    (s.command.running = true → exec (.setScan 3 a) s = .next (s.finished .inUse))
    ∧ (s.command.running = false → ¬good → exec (.setScan 3 a) s = .next (s.finished .badArgument))
    ∧ (s.command.running = false → good → meets → exec (.setScan 3 a) s = .next (s.finished .overlap))
    ∧ (s.command.running = false → good → ¬meets → exec (.setScan 3 a) s
        = .next (({ s with scan := { s.scan with definition := some d } } : State).finished .ok))

/-- SET_CAPTURE and CLEAR_CAPTURE: the ranges of R25, the wrap and the overlap; else a fresh record or none, the generation incremented, CAMERA_LATE when the camera was FRESH, and of the locks of the live contexts exactly those on that camera set apart (R5, R25 to R27, R39, R40). -/
def Obligations.CaptureDefinitions : Prop :=
  ∀ (s : State), s.Ready →
    let redefined := fun (c : Fin 6) (x : Option CaptureRec) =>
      let t : State := { s with
        cameras := s.cameras.set c { generation := s.cameras[c].generation + 1, record := x },
        scan := { s.scan with slots := Vector.ofFn fun i => s.scan.slots[i].map fun y => { y with panes := y.panes.map fun e =>
          { e with lock := e.lock.map fun l => if l.camera = c then { l with current := false } else l } } } }
      if (s.cameras[c].record.map (·.state)) = some .fresh then t.raise .cameraLate else t
    (∀ a : CaptureArgs,
      let base := a.base.toNat
      let size := a.ring.toNat * a.spacing.toNat
      let good := a.camera.toNat ≤ 5 ∧ base % 4096 = 0 ∧ 2 ≤ a.ring.toNat ∧ a.ring.toNat ≤ 4
        ∧ a.width.toNat % 2 = 0 ∧ 64 ≤ a.width.toNat ∧ a.width.toNat ≤ 2048 ∧ 16 ≤ a.height.toNat ∧ a.height.toNat ≤ 1080
        ∧ a.stride.toNat % 8 = 0 ∧ a.width.toNat * 4 ≤ a.stride.toNat ∧ a.stride.toNat ≤ 16384
        ∧ a.spacing.toNat % 4096 = 0 ∧ a.stride.toNat * a.height.toNat ≤ a.spacing.toNat
        ∧ 20 ≤ a.fresh.toNat ∧ a.fresh.toNat ≤ 2000 ∧ base + size ≤ 2 ^ 32
      let meets := ∃ x, base ≤ x ∧ x < base + size
        ∧ (s.inPage x ∨ s.inScan x ∨ ∃ d : Fin 6, d.val ≠ a.camera.toNat ∧ s.inCapture d x)
      (¬good → exec (.setCapture 4 a) s = .next (s.finished .badArgument))
      ∧ (good → meets → exec (.setCapture 4 a) s = .next (s.finished .overlap))
      ∧ (good → ¬meets → ∀ c : Fin 6, c.val = a.camera.toNat → exec (.setCapture 4 a) s = .next ((redefined c (some
          { geo := { owner := a.owner, base := base, ring := a.ring.toNat, width := a.width.toNat, height := a.height.toNat,
                     stride := a.stride.toNat, spacing := a.spacing.toNat, limit := a.fresh.toNat },
            buffers := List.replicate a.ring.toNat .empty, nextSeq := 1, newest := none, state := .noFrame, lateness := none,
            lastCorruption := none })).finished .ok)))
    ∧ (∀ x : BitVec 3, (5 < x.toNat → exec (.clearCapture 1 x) s = .next (s.finished .badArgument))
        ∧ ∀ c : Fin 6, c.val = x.toNat → exec (.clearCapture 1 x) s = .next ((redefined c none).finished .ok))

/-- SET_PANE and CLEAR_PANE: the ranges of R65 and the limits of R66, else the record replaced or removed, and nothing else (R65 to R68). -/
def Obligations.PaneDefinitions : Prop :=
  ∀ (s : State), s.Ready →
    (∀ a : PaneArgs,
      let good := a.pane.toNat ≤ 15 ∧ a.camera.toNat ≤ 5 ∧ a.left.toNat % 2 = 0 ∧ a.left.toNat ≤ 2046 ∧ a.top.toNat ≤ 1079
        ∧ a.width.toNat % 2 = 0 ∧ 2 ≤ a.width.toNat ∧ a.width.toNat ≤ 2048 ∧ 1 ≤ a.height.toNat ∧ a.height.toNat ≤ 1080
        ∧ a.srcX.toNat % 2 = 0 ∧ a.srcX.toNat ≤ 2046 ∧ a.srcY.toNat ≤ 1079
        ∧ a.left.toNat + a.width.toNat ≤ 2048 ∧ a.srcX.toNat + a.width.toNat ≤ 2048
        ∧ a.top.toNat + a.height.toNat ≤ 1080 ∧ a.srcY.toNat + a.height.toNat ≤ 1080
      (¬good → exec (.setPane 2 a) s = .next (s.finished .badArgument))
      ∧ (good → ∀ (p : Fin 16) (c : Fin 6), p.val = a.pane.toNat → c.val = a.camera.toNat → exec (.setPane 2 a) s
          = .next (({ s with panes := s.panes.set p (some { camera := c, geo :=
              { left := a.left.toNat, top := a.top.toNat, width := a.width.toNat, height := a.height.toNat,
                srcX := a.srcX.toNat, srcY := a.srcY.toNat, mirror := a.mirror } }) } : State).finished .ok)))
    ∧ (∀ x : BitVec 5, (15 < x.toNat → exec (.clearPane 1 x) s = .next (s.finished .badArgument))
        ∧ ∀ p : Fin 16, p.val = x.toNat →
            exec (.clearPane 1 x) s = .next (({ s with panes := s.panes.set p none } : State).finished .ok))

/-! ### Views -/

/-- SET_VIEW makes the checks of R127 in order, and else replaces the definition and records the match without requesting the view; CLEAR_VIEW removes an INACTIVE one (R127 to R129). -/
def Obligations.ViewDefinitions : Prop :=
  ∀ (s : State), s.Ready →
    (∀ a : ViewArgs,
      let list := ([a.pane0.toFin, a.pane1.toFin, a.pane2.toFin, a.pane3.toFin] : List (Fin 16)).take a.count.toNat
      let d : ViewDef := { panes := list, layers := a.layers, mask := a.mask, values := a.values, linger := a.linger.toNat,
                           chime := a.chime }
      let listed := a.count.toNat ≤ 4 ∧ list.Nodup
      let shared := ∃ (i j : Nat) (p q : Fin 16) (x y : PaneRec), i < j ∧ list[i]? = some p ∧ list[j]? = some q ∧ s.panes[p] = some x ∧ s.panes[q] = some y
        ∧ x.geo.sharesPixel y.geo = true
      (7 < a.view.toNat → exec (.setView 2 a) s = .next (s.finished .badArgument))
      ∧ (∀ v : Fin 8, v.val = a.view.toNat →
          let free := v = 0 ∨ (s.views[v].wanted = false ∧ s.onStack v = false)
          (¬free → exec (.setView 2 a) s = .next (s.finished .inUse))
          ∧ (free → ¬listed → exec (.setView 2 a) s = .next (s.finished .badArgument))
          ∧ (free → listed → shared → exec (.setView 2 a) s = .next (s.finished .overlap))
          ∧ (free → listed → ¬shared → exec (.setView 2 a) s
              = .next (({ s with views := s.views.set v { s.views[v] with
                  definition := some d,
                  inMatch := decide (v ≠ 0 ∧ a.mask ≠ 0 ∧ (s.conditions ^^^ a.values) &&& a.mask = 0) } } : State).finished .ok))))
    ∧ (∀ x : BitVec 4, ((x = 0 ∨ 7 < x.toNat) → exec (.clearView 1 x) s = .next (s.finished .badArgument))
        ∧ ∀ v : Fin 8, v ≠ 0 → v.val = x.toNat →
            ((s.views[v].wanted = false ∧ s.onStack v = false) → exec (.clearView 1 x) s
              = .next (({ s with views := s.views.set v { s.views[v] with definition := none, inMatch := false } } : State).finished .ok))
            ∧ (¬(s.views[v].wanted = false ∧ s.onStack v = false) → exec (.clearView 1 x) s = .next (s.finished .inUse)))

/-- REQUEST_VIEW and RELEASE_VIEW: the refusals, the hold set or cleared, and the request or release that follows: pushed, unmarked, waiting; marked, no longer waiting, or popped with the marked entries under it and the views that wait above the new top pushed (R133 to R135, R138 to R142). -/
def Obligations.RequestAndReleaseView : Prop :=
  ∀ (s : State) (x : BitVec 4), s.Ready →
    ((x = 0 ∨ 7 < x.toNat) → exec (.requestView 1 x) s = .next (s.finished .badArgument)
      ∧ exec (.releaseView 1 x) s = .next (s.finished .badArgument))
    ∧ ∀ v : Fin 8, v ≠ 0 → v.val = x.toNat →
        let held := fun b => s.views.set v { s.views[v] with command := b }
        (s.views[v].definition = none → exec (.requestView 1 x) s = .next (s.finished .notReady))
        ∧ (s.views[v].definition ≠ none →
            (s.views[v].wanted = true → exec (.requestView 1 x) s = .next (({ s with views := held true } : State).finished .ok))
            ∧ (s.views[v].wanted = false → s.onStack v = true → exec (.requestView 1 x) s
                = .next (({ s with views := held true, stack := s.stack.map fun e =>
                    if e.view = v then { e with released := false } else e } : State).finished .ok))
            ∧ (s.views[v].wanted = false → s.onStack v = false → s.topView < v → exec (.requestView 1 x) s
                = .next (({ s with views := held true,
                                   stack := { view := v, released := false, entered := s.time.ms } :: s.stack } : State).finished .ok))
            ∧ (s.views[v].wanted = false → s.onStack v = false → v < s.topView → exec (.requestView 1 x) s
                = .next (({ s with views := held true } : State).finished .ok)))
        ∧ ((s.views[v].command = false ∨ s.views[v].trigger ≠ .absent ∨ s.onStack v = false) →
            exec (.releaseView 1 x) s = .next (({ s with views := held false } : State).finished .ok))
        ∧ (s.views[v].command = true → s.views[v].trigger = .absent → s.onStack v = true → s.topView ≠ v →
            exec (.releaseView 1 x) s = .next (({ s with views := held false, stack := s.stack.map fun e =>
              if e.view = v then { e with released := true } else e } : State).finished .ok))
        ∧ (s.views[v].command = true → s.views[v].trigger = .absent → s.topView = v → s.ArbiterOk →
            ∃ t, exec (.releaseView 1 x) s = .next t ∧ t.onStack v = false ∧ t.ArbiterOk ∧ t.views = held false
              ∧ t = { s with views := t.views, stack := t.stack, command := t.command }
              ∧ t.command.lastResult = some .ok)
        ∧ (s.views[v].command = true → s.views[v].trigger = .absent → s.topView = v →
            exec (.releaseView 1 x) s = .next (({ s with
              views := held false,
              stack := stackAfterPop s.time.ms (fun w => w ≠ v && s.views[w].wanted) s.stack } : State).finished .ok))

/-- A change of the condition bits: the bits follow the lines and K8; each view's match is decided afresh, an entry into match makes its hold matching, an end of match ends a matching hold or lets it linger; then the releases of the views no longer wanted, in decreasing priority, and the requests of those newly wanted, in increasing priority, each whole before the next. A view that waits counts as wanted until its own release of the event is taken: the model's choice (log 30) (R111, R115, R130 to R132, R135, R138 to R142). -/
def Obligations.ConditionChangesReachTheViews : Prop :=
  ∀ s : State,
    (∀ n : Fin 8, s.conditions.getLsbD n.val
      = (decide (s.lines[n].config.function = .input) && (s.lines[n].debounced != s.lines[n].config.activeLow)))
    ∧ s.conditions.getLsbD 8 = s.rate.k8
    ∧ ∃ t, t = s.conditionChange ∧ t = { s with views := t.views, stack := t.stack }
      ∧ t.views[(0 : Fin 8)] = s.views[(0 : Fin 8)]
      ∧ (∀ v : Fin 8, v ≠ 0 → t.views[v].definition = s.views[v].definition ∧ t.views[v].command = s.views[v].command
          ∧ (t.views[v].inMatch = true ↔ s.viewMatches v)
          ∧ (s.views[v].inMatch = false → s.viewMatches v → t.views[v].trigger = .matching)
          ∧ (∀ d, s.views[v].inMatch = true → ¬s.viewMatches v → s.views[v].trigger = .matching →
              s.views[v].definition = some d →
              t.views[v].trigger = if d.linger = 0 then .absent else .lingering (s.time.ms + BitVec.ofNat 32 (d.linger * 100)))
          ∧ (s.views[v].inMatch = true → ¬s.viewMatches v → s.views[v].trigger ≠ .matching →
              t.views[v].trigger = s.views[v].trigger)
          ∧ ((s.views[v].inMatch = true ↔ s.viewMatches v) → t.views[v].trigger = s.views[v].trigger))
      ∧ (let down := ([7, 6, 5, 4, 3, 2, 1] : List (Fin 8)).filter fun v => s.views[v].wanted && !t.views[v].wanted
         let up := ([1, 2, 3, 4, 5, 6, 7] : List (Fin 8)).filter fun v => !s.views[v].wanted && t.views[v].wanted
         let release := fun (x : (Fin 8 → Bool) × List StackEntry) (v : Fin 8) =>
           ((fun w => w ≠ v && x.1 w), stackAfterRelease s.time.ms (fun w => w ≠ v && x.1 w) x.2 v)
         t.stack = up.foldl (stackAfterRequest s.time.ms) (down.foldl release ((fun w => s.views[w].wanted), s.stack)).2)

/-- TRUNCATE_STACK keeps the oldest entries, drops the holds of the removed and of the waiting views, keeps every match state, and pops marked entries that come to the top (R143). -/
def Obligations.TruncateStackKeepsTheOldest : Prop :=
  ∀ (s : State) (x : BitVec 4), s.Ready →
    ((x = 0 ∨ 8 < x.toNat) → exec (.truncateStack 1 x) s = .next (s.finished .badArgument))
    ∧ (1 ≤ x.toNat → x.toNat ≤ 8 → s.ArbiterOk → ∃ t, exec (.truncateStack 1 x) s = .next t
        ∧ t = { s with views := t.views, stack := t.stack, command := t.command }
        ∧ t.command = { s.command with seq := s.command.seq + 1, lastSeq := s.command.seq + 1, lastResult := some .ok }
        ∧ t.stack = (s.stack.drop (s.stack.length - x.toNat)).dropWhile (·.released)
        ∧ (∀ v : Fin 8, s.isPending v = true ∨ (∃ e ∈ s.stack.take (s.stack.length - x.toNat), e.view = v) →
            t.views[v] = { s.views[v] with trigger := .absent, command := false })
        ∧ (∀ v : Fin 8, s.isPending v = false → (∀ e ∈ s.stack.take (s.stack.length - x.toNat), e.view ≠ v) →
            t.views[v] = s.views[v])
        ∧ (∀ v : Fin 8, t.isPending v = false))

/-! ### Lines, rate, events, alert -/

/-- SET_LINE: a bad argument is refused, the configuration in force changes nothing, an input made an output is held low and loses the rate source, an output made an input takes the raw level, an input kept an input keeps its raw and debounced levels and debounces anew, and a raw level that the pull-up moves is then a raw change (R108, R113, R114; logs 15 to 17). -/
def Obligations.SetLineConfiguresALine : Prop :=
  ∀ (s : State) (a : LineArgs), s.Ready →
    ((7 < a.line.toNat ∨ 3 < a.function.toNat) → exec (.setLine 1 a) s = .next (s.finished .badArgument))
    ∧ ∀ n : Fin 8, n.val = a.line.toNat → a.function.toNat ≤ 3 →
        let f : LineFunction := if a.function = 0 then .input else if a.function = 1 then .alert
          else if a.function = 2 then .alertInv else .lamp
        let c : LineConfig :=
          { function := f, pullUp := a.pullUp, activeLow := a.activeLow, debounce := a.debounce.toNat,
            edge := if a.edge = 0 then .never else if a.edge = 1 then .rising else if a.edge = 2 then .falling else .both }
        let old := s.lines[n]
        (c = old.config → exec (.setLine 1 a) s = .next (s.finished .ok))
        ∧ (c ≠ old.config → old.config.function ≠ .input → f ≠ .input →
            exec (.setLine 1 a) s = .next (({ s with lines := s.lines.set n { old with config := c } } : State).finished .ok))
        ∧ (old.config.function = .input → f ≠ .input →
            let low := s.heard { s with lines := s.lines.set n { old with config := c, debounced := false, timer := none } }
            exec (.setLine 1 a) s = .next ((if s.rate.source = some n
              then low.heard { low with rate := { s.rate with source := none, timer := none, running := 0, k8 := false } }
              else low).finished .ok))
        ∧ (old.config.function ≠ .input → f = .input → exec (.setLine 1 a) s = .next ((s.heard { s with
            lines := s.lines.set n { old with config := c, debounced := pinLevel old.outside none c.pullUp, timer := none } }).finished
              .ok))
        ∧ (c ≠ old.config → old.config.function = .input → f = .input →
            let raw := pinLevel old.outside none c.pullUp
            let changed := fun (l : VehicleLine) => s.heard { s with lines := s.lines.set n l }
            let later : Timer := some (s.time.ms + BitVec.ofNat 32 c.debounce)
            (raw = s.raw n → exec (.setLine 1 a) s = .next ((changed (
                if raw = old.debounced then { old with config := c, timer := none }
                else if c.debounce = 0 then { old with config := c, debounced := raw, timer := none }
                else { old with config := c, timer := later })).finished .ok))
            ∧ (raw ≠ s.raw n → c.debounce ≠ 0 → exec (.setLine 1 a) s = .next ((changed
                { old with config := c, timer := if raw = old.debounced then none else later }).finished .ok))
            ∧ (raw ≠ s.raw n → c.debounce = 0 →
                let kept : VehicleLine := { old with config := c, debounced := s.raw n, timer := none }
                exec (.setLine 1 a) s = .next (((changed kept).levelFollowed n kept).finished .ok)))

/-- SET_EVENTS replaces every enable and level and leaves every flag and count (R175). ACK_EVENTS clears the kinds of its mask, re-pends a level kind whose condition holds with count 1, leaves the others, every enable and every level, and clears the clock-was-lost flag with CLOCK_LOST outside a loss (R23, R179, R180). -/
def Obligations.SetAndAckEvents : Prop :=
  (∀ (s : State) (enable urgent : BitVec 14), s.Ready → ∃ t, exec (.setEvents 1 enable urgent) s = .next t
    ∧ t = ({ s with events := t.events } : State).finished .ok
    ∧ ∀ i : Fin 14, t.events[i] = { s.events[i] with enabled := enable.getLsbD i.val, urgent := urgent.getLsbD i.val })
  ∧ ∀ (s : State) (mask : BitVec 14), s.Ready → ∃ t, exec (.ackEvents 1 mask) s = .next t
    ∧ t = ({ s with events := t.events, time := t.time } : State).finished .ok
    ∧ (∀ i : Fin 14,
        let holds := (i = 0 ∧ s.scan.staleShown = true) ∨ (i = 4 ∧ s.scan.scanStall = true) ∨ (i = 10 ∧ s.time.lost = true)
        (mask.getLsbD i.val = false → t.events[i] = s.events[i])
        ∧ (mask.getLsbD i.val = true → holds → t.events[i] = { s.events[i] with pending := true, count := 1 })
        ∧ (mask.getLsbD i.val = true → ¬holds → t.events[i] = { s.events[i] with pending := false, count := 0 }))
    ∧ t.time = { s.time with wasLost := s.time.wasLost && !(mask.getLsbD 10 && !s.time.lost) }

/-- R178: each interrupt line is asserted while an enabled kind of its level is pending, so it is decided anew whenever a flag, an enable or a level changes; an enabled kind asserts its line at its occurrence, a further occurrence leaves the lines, and a level kind re-pended by an acknowledgement keeps its line. -/
def Obligations.InterruptLinesFollowTheLatch : Prop :=
  ∀ s : State, s.resetLow = false →
    (s.intU = true ↔ ∃ i : Fin 14, s.events[i].pending = true ∧ s.events[i].enabled = true ∧ s.events[i].urgent = true)
    ∧ (s.intN = true ↔ ∃ i : Fin 14, s.events[i].pending = true ∧ s.events[i].enabled = true ∧ s.events[i].urgent = false)
    ∧ (∀ k : EventKind, s.events[k.index].enabled = true →
        (if s.events[k.index].urgent then (s.raise k).intU else (s.raise k).intN) = true)
    ∧ (∀ k : EventKind, s.events[k.index].pending = true → (s.raise k).intU = s.intU ∧ (s.raise k).intN = s.intN)
    ∧ (∀ (mask : BitVec 14) (k : EventKind), s.levelHolds k.index = true → s.events[k.index].pending = true →
        s.events[k.index].enabled = true →
        (if s.events[k.index].urgent then (s.acknowledge mask).intU else (s.acknowledge mask).intN) = true)

/-- R176: an occurrence and a SET_EVENTS in either order leave the same latch and lines; between the two a line may be asserted for a moment. -/
def Obligations.OccurrenceAndSetEventsCommute : Prop :=
  (∀ (s : State) (k : EventKind) (enable urgent : BitVec 14),
    let both := (s.raise k).setEventMasks enable urgent
    both = (s.setEventMasks enable urgent).raise k
    ∧ both.events[k.index] =
        { pending := true, count := if s.events[k.index].count < 255 then s.events[k.index].count + 1 else 255,
          enabled := enable.getLsbD k.index.val, urgent := urgent.getLsbD k.index.val }
    ∧ (∀ i : Fin 14, i ≠ k.index →
        both.events[i] = { s.events[i] with enabled := enable.getLsbD i.val, urgent := urgent.getLsbD i.val })
    ∧ both.intU = ((s.setEventMasks enable urgent).raise k).intU ∧ both.intN = ((s.setEventMasks enable urgent).raise k).intN)
  ∧ ∀ (s : State) (k : EventKind), s.resetLow = false → s.events[k.index].enabled = true → s.events[k.index].urgent = true →
      (s.raise k).intU = true ∧ ((s.raise k).setEventMasks 0 0).intU = false ∧ ((s.raise k).setEventMasks 0 0).intN = false

/-- SILENCE_ALERT records the causes present and silences the output exactly when there is one (R121). -/
def Obligations.SilenceRecordsTheCauses : Prop :=
  ∀ s : State, s.Ready → ∃ t, exec (.silenceAlert 1) s = .next t
    ∧ t = (({ s with alert := { s.alert with silenced := t.alert.silenced, record := t.alert.record } } : State).finished .ok)
    ∧ (Cause.staleShown ∈ t.alert.record ↔ s.scan.staleShown = true)
    ∧ (Cause.scanStall ∈ t.alert.record ↔ s.scan.scanStall = true)
    ∧ (Cause.chime ∈ t.alert.record ↔ s.alert.chime = true)
    ∧ (t.alert.silenced = true ↔ s.scan.staleShown = true ∨ s.scan.scanStall = true ∨ s.alert.chime = true)
    ∧ t.alertActive = false

/-- R120: when the alert output is active, in every state; the ALERT and ALERT_INV lines follow it, the LAMP lines follow STALE_SHOWN, no line is driven as an input or while RESET_N is low, and bit 24 of the alert status word reports it. -/
def Obligations.AlertOutputFollowsTheCauses : Prop :=
  ∀ s : State,
    (s.alertActive = true ↔ s.alert.silenced = false
      ∧ (s.scan.staleShown = true ∨ ((s.scan.scanStall = true ∨ s.alert.chime = true) ∧ s.alert.phase = .on)))
    ∧ (s.resetLow = false → ∀ n : Fin 8,
        (s.lines[n].config.function = .alert → s.drive n = some s.alertActive)
        ∧ (s.lines[n].config.function = .alertInv → s.drive n = some !s.alertActive)
        ∧ (s.lines[n].config.function = .lamp → s.drive n = some s.scan.staleShown)
        ∧ (s.lines[n].config.function = .input → s.drive n = none))
    ∧ (s.resetLow = true → ∀ n : Fin 8, s.drive n = none)
    ∧ (s.statusWord 0x258).getLsbD 24 = s.alertActive

/-! ### Refusals, losses, encoding -/

/-- A complete command of the catalogue or of an unknown code: handed over, UNKNOWN for a code outside the catalogue, LENGTH for another length than its code's, queued behind others, lost to a full queue, a declared length outside 1 to 4 lost, and no command past a request held at the system port; a command row leaves a command that is being assembled from slot words as it is (R10, R152, R154 to R156, R158; log 29). -/
def Obligations.RefusedQueuedAndLostCommands : Prop :=
  ∀ (s : State) (c : Cmd) (len : BitVec 3) (code : BitVec 8) (args : BitVec 53) (i : Instr) (ws : List Word), s.resetLow = false →
    ((i = c.event len ∧ ws = encodeCommand len c)
      ∨ (i = .unknownCodeCommand len code args
        ∧ ws = (code.setWidth 64 <<< 56 ||| len.setWidth 64 <<< 53 ||| args.setWidth 64) :: List.replicate (len.toNat - 1) 0)) →
    (s.link.sysPort ≠ [] → exec i s = .next s)
    ∧ (∃ t, exec i s = .next t ∧ t.command.assembly = s.command.assembly)
    ∧ (s.link.sysPort = [] →
    (1 ≤ len.toNat → len.toNat ≤ 4 → exec i s = .next (s.handedOver ws))
    ∧ (s.command.queue = [] → 1 ≤ len.toNat → len.toNat ≤ 4 →
      (i = c.event len → len ≠ c.length → exec i s = .next (s.finished .length))
      ∧ (i = .unknownCodeCommand len code args → code ∉ catalogueCodes → exec i s = .next (s.finished .unknown)))
    ∧ (1 ≤ len.toNat → len.toNat ≤ 4 → s.command.queue ≠ [] → s.command.queue.length < 64 →
        exec i s = .next { s with command := { s.command with
          seq := s.command.seq + 1,
          queue := s.command.queue ++ [{ seq := s.command.seq + 1, words := ws }] } })
    ∧ (1 ≤ len.toNat → len.toNat ≤ 4 → 64 ≤ s.command.queue.length →
        exec i s = .next (({ s with command := { s.command with
          lost := if s.command.lost < 65535 then s.command.lost + 1 else 65535, lossCause := some .queueFull } } : State).raise
            .commandLost))
    ∧ ((len = 0 ∨ 5 ≤ len.toNat) →
        exec i s = .next (({ s with command := { s.command with
          lost := if s.command.lost < 65535 then s.command.lost + 1 else 65535, lossCause := some .badLength } } : State).raise
            .commandLost)))

/-- The words of every command decode to it, with every operand at every value its field admits, and declare its length. Of arbitrary words, the code, the declared length and each field are the bits that the tables of section 10.2 give them, and the reserved bits play no part: a command of unknown code or of another length is refused, and any other starts as the command its fields spell (R158, R186 to R188). -/
def Obligations.CommandWordsRoundTrip : Prop :=
  (∀ c : Cmd, decodeCommand (encodeCommand c.length c) = some c ∧ (encodeCommand c.length c).length = c.length.toNat
    ∧ headerCode (wordAt (encodeCommand c.length c) 0) = c.code ∧ headerLength (wordAt (encodeCommand c.length c) 0) = c.length)
  ∧ ∀ ws : List Word,
    let f := fun (i lo n : Nat) => BitVec.ofNat n ((ws.getD i 0).toNat / 2 ^ lo)
    let b := fun (i lo : Nat) => decide ((ws.getD i 0).toNat / 2 ^ lo % 2 = 1)
    decodeCommand ws = (match (ws.getD 0 0).toNat / 2 ^ 56 with
      | 0x01 => some .run
      | 0x02 => some .bypass
      | 0x03 => some .softReset
      | 0x10 => some (.setScan { base := f 0 0 32, tag := f 0 32 4, stride := f 1 0 15, width := f 1 16 12, height := f 2 0 11,
                                 stall := f 2 16 10 })
      | 0x11 => some (.setCapture { base := f 0 0 32, camera := f 0 32 3, owner := f 0 36 4, ring := f 0 40 3, width := f 1 0 12,
                                    height := f 1 16 11, stride := f 1 32 15, spacing := f 2 0 32, fresh := f 3 0 11 })
      | 0x12 => some (.clearCapture (f 0 32 3))
      | 0x20 => some (.setPane { pane := f 0 0 5, camera := f 0 8 3, mirror := b 0 12, left := f 0 16 12, top := f 0 32 11,
                                 width := f 1 0 12, height := f 1 16 11, srcX := f 1 32 12, srcY := f 1 48 11 })
      | 0x21 => some (.clearPane (f 0 0 5))
      | 0x30 => some (.setView { view := f 0 0 4, count := f 0 4 3, pane0 := f 0 8 4, pane1 := f 0 12 4, pane2 := f 0 16 4,
                                 pane3 := f 0 20 4, layers := f 0 24 8, chime := b 0 32, mask := f 1 0 9, values := f 1 16 9,
                                 linger := f 1 32 8 })
      | 0x31 => some (.clearView (f 0 0 4))
      | 0x32 => some (.requestView (f 0 0 4))
      | 0x33 => some (.releaseView (f 0 0 4))
      | 0x34 => some (.truncateStack (f 0 0 4))
      | 0x40 => some (.addSpan { layer := f 0 0 3, mode := f 0 4 2, line := f 0 16 11, x0 := f 0 32 11, colour := f 1 0 24,
                                 x1 := f 1 32 11 })
      | 0x41 => some (.removeSpan { layer := f 0 0 3, line := f 0 16 11, x0 := f 0 32 11 })
      | 0x42 => some .clearBank
      | 0x43 => some .copyBank
      | 0x44 => some .flipBank
      | 0x45 => some (.setHatch (f 0 0 24))
      | 0x50 => some (.setLine { line := f 0 0 4, function := f 0 8 3, pullUp := b 0 12, activeLow := b 0 13, edge := f 0 16 2,
                                 debounce := f 0 24 8 })
      | 0x51 => some (.setRate (f 0 0 4) (f 0 8 8))
      | 0x60 => some (.setEvents (f 0 0 14) (f 0 32 14))
      | 0x61 => some (.ackEvents (f 0 0 14))
      | 0x62 => some .silenceAlert
      | _ => none)
    ∧ headerCode (ws.getD 0 0) = f 0 56 8 ∧ headerLength (ws.getD 0 0) = f 0 53 3
    ∧ ∀ s : State,
        (decodeCommand ws = none → s.startWords ws = (some .unknown, s))
        ∧ ∀ c, decodeCommand ws = some c →
            (f 0 53 3 ≠ c.length → s.startWords ws = (some .length, s))
            ∧ (f 0 53 3 = c.length → s.startWords ws = s.startWords (encodeCommand c.length c))

/-! ### Invariants of every step -/

/-- R20, R22, R23, R173, R180: the event latch and the clock's flags; R3, R19: the part stands at its reset values while RESET_N is low. -/
def Obligations.StepKeepsTheLatch : Prop :=
  ∀ s t : State, step s = .next t → (s.LatchOk → t.LatchOk) ∧ (s.TimeOk → t.TimeOk) ∧ (s.ResetOk → t.ResetOk)

/-- R130 to R132, R135 to R137: the view stack, the request states and the match states. -/
def Obligations.StepKeepsTheViewStack : Prop := ∀ s t : State, step s = .next t → s.ArbiterOk → t.ArbiterOk

/-- R110, R113 to R115: the lines and the rate input; R118, R119, R121, R122: the causes, the pulse phase and the silence. -/
def Obligations.StepKeepsLinesAndAlert : Prop :=
  ∀ s t : State, step s = .next t → (s.LinesOk → t.LinesOk) ∧ (s.AlertOk → t.AlertOk)

/-- R5: the windows share no address; R25, R29, R36, R37: the capture records. -/
def Obligations.StepKeepsWindowsAndCameras : Prop :=
  ∀ s t : State, step s = .next t → (s.WindowsOk → t.WindowsOk) ∧ (s.CamerasOk → t.CamerasOk)

/-- R83, R84, R86: the span banks. -/
def Obligations.StepKeepsTheBanks : Prop := ∀ s t : State, step s = .next t → s.BanksOk → t.BanksOk

/-- R11, R43, R54 to R56, R60 to R62, R86, R87, R96, R156, R157: contexts, table, operating state and the command in progress. -/
def Obligations.StepKeepsTheFlow : Prop := ∀ s t : State, step s = .next t → s.FlowOk → t.FlowOk

/-- R52, R65, R126, R152 to R159: the pane records and lists, and the command records. -/
def Obligations.StepKeepsPanesAndQueue : Prop :=
  ∀ s t : State, step s = .next t → (s.PanesOk → t.PanesOk) ∧ (s.QueueOk → t.QueueOk)
end

