-- ==== Sys2Proof/Laws/State.lean ====
section
/-! SUPPORT. One lemma per field per update of State: each true by rfl, so that no proof unfolds a record update. -/

namespace Sys2Proof.Machine

@[simp] theorem State.withLink_pending (s : State) (x : Link) : (s.withLink x).pending = s.pending := rfl
@[simp] theorem State.withLink_resetLow (s : State) (x : Link) : (s.withLink x).resetLow = s.resetLow := rfl
@[simp] theorem State.withLink_strap (s : State) (x : Link) : (s.withLink x).strap = s.strap := rfl
@[simp] theorem State.withLink_link (s : State) (x : Link) : (s.withLink x).link = x := rfl
@[simp] theorem State.withLink_time (s : State) (x : Link) : (s.withLink x).time = s.time := rfl
@[simp] theorem State.withLink_cameras (s : State) (x : Link) : (s.withLink x).cameras = s.cameras := rfl
@[simp] theorem State.withLink_scan (s : State) (x : Link) : (s.withLink x).scan = s.scan := rfl
@[simp] theorem State.withLink_panes (s : State) (x : Link) : (s.withLink x).panes = s.panes := rfl
@[simp] theorem State.withLink_overlay (s : State) (x : Link) : (s.withLink x).overlay = s.overlay := rfl
@[simp] theorem State.withLink_lines (s : State) (x : Link) : (s.withLink x).lines = s.lines := rfl
@[simp] theorem State.withLink_rate (s : State) (x : Link) : (s.withLink x).rate = s.rate := rfl
@[simp] theorem State.withLink_alert (s : State) (x : Link) : (s.withLink x).alert = s.alert := rfl
@[simp] theorem State.withLink_views (s : State) (x : Link) : (s.withLink x).views = s.views := rfl
@[simp] theorem State.withLink_stack (s : State) (x : Link) : (s.withLink x).stack = s.stack := rfl
@[simp] theorem State.withLink_command (s : State) (x : Link) : (s.withLink x).command = s.command := rfl
@[simp] theorem State.withLink_events (s : State) (x : Link) : (s.withLink x).events = s.events := rfl
@[simp] theorem State.withLink_free (s : State) (x : Link) : (s.withLink x).free = s.free := rfl

@[simp] theorem State.withTime_pending (s : State) (x : TimeBase) : (s.withTime x).pending = s.pending := rfl
@[simp] theorem State.withTime_resetLow (s : State) (x : TimeBase) : (s.withTime x).resetLow = s.resetLow := rfl
@[simp] theorem State.withTime_strap (s : State) (x : TimeBase) : (s.withTime x).strap = s.strap := rfl
@[simp] theorem State.withTime_link (s : State) (x : TimeBase) : (s.withTime x).link = s.link := rfl
@[simp] theorem State.withTime_time (s : State) (x : TimeBase) : (s.withTime x).time = x := rfl
@[simp] theorem State.withTime_cameras (s : State) (x : TimeBase) : (s.withTime x).cameras = s.cameras := rfl
@[simp] theorem State.withTime_scan (s : State) (x : TimeBase) : (s.withTime x).scan = s.scan := rfl
@[simp] theorem State.withTime_panes (s : State) (x : TimeBase) : (s.withTime x).panes = s.panes := rfl
@[simp] theorem State.withTime_overlay (s : State) (x : TimeBase) : (s.withTime x).overlay = s.overlay := rfl
@[simp] theorem State.withTime_lines (s : State) (x : TimeBase) : (s.withTime x).lines = s.lines := rfl
@[simp] theorem State.withTime_rate (s : State) (x : TimeBase) : (s.withTime x).rate = s.rate := rfl
@[simp] theorem State.withTime_alert (s : State) (x : TimeBase) : (s.withTime x).alert = s.alert := rfl
@[simp] theorem State.withTime_views (s : State) (x : TimeBase) : (s.withTime x).views = s.views := rfl
@[simp] theorem State.withTime_stack (s : State) (x : TimeBase) : (s.withTime x).stack = s.stack := rfl
@[simp] theorem State.withTime_command (s : State) (x : TimeBase) : (s.withTime x).command = s.command := rfl
@[simp] theorem State.withTime_events (s : State) (x : TimeBase) : (s.withTime x).events = s.events := rfl
@[simp] theorem State.withTime_free (s : State) (x : TimeBase) : (s.withTime x).free = s.free := rfl

@[simp] theorem State.withCameras_pending (s : State) (x : Vector Camera 6) : (s.withCameras x).pending = s.pending := rfl
@[simp] theorem State.withCameras_resetLow (s : State) (x : Vector Camera 6) : (s.withCameras x).resetLow = s.resetLow := rfl
@[simp] theorem State.withCameras_strap (s : State) (x : Vector Camera 6) : (s.withCameras x).strap = s.strap := rfl
@[simp] theorem State.withCameras_link (s : State) (x : Vector Camera 6) : (s.withCameras x).link = s.link := rfl
@[simp] theorem State.withCameras_time (s : State) (x : Vector Camera 6) : (s.withCameras x).time = s.time := rfl
@[simp] theorem State.withCameras_cameras (s : State) (x : Vector Camera 6) : (s.withCameras x).cameras = x := rfl
@[simp] theorem State.withCameras_scan (s : State) (x : Vector Camera 6) : (s.withCameras x).scan = s.scan := rfl
@[simp] theorem State.withCameras_panes (s : State) (x : Vector Camera 6) : (s.withCameras x).panes = s.panes := rfl
@[simp] theorem State.withCameras_overlay (s : State) (x : Vector Camera 6) : (s.withCameras x).overlay = s.overlay := rfl
@[simp] theorem State.withCameras_lines (s : State) (x : Vector Camera 6) : (s.withCameras x).lines = s.lines := rfl
@[simp] theorem State.withCameras_rate (s : State) (x : Vector Camera 6) : (s.withCameras x).rate = s.rate := rfl
@[simp] theorem State.withCameras_alert (s : State) (x : Vector Camera 6) : (s.withCameras x).alert = s.alert := rfl
@[simp] theorem State.withCameras_views (s : State) (x : Vector Camera 6) : (s.withCameras x).views = s.views := rfl
@[simp] theorem State.withCameras_stack (s : State) (x : Vector Camera 6) : (s.withCameras x).stack = s.stack := rfl
@[simp] theorem State.withCameras_command (s : State) (x : Vector Camera 6) : (s.withCameras x).command = s.command := rfl
@[simp] theorem State.withCameras_events (s : State) (x : Vector Camera 6) : (s.withCameras x).events = s.events := rfl
@[simp] theorem State.withCameras_free (s : State) (x : Vector Camera 6) : (s.withCameras x).free = s.free := rfl

@[simp] theorem State.withScan_pending (s : State) (x : Scan) : (s.withScan x).pending = s.pending := rfl
@[simp] theorem State.withScan_resetLow (s : State) (x : Scan) : (s.withScan x).resetLow = s.resetLow := rfl
@[simp] theorem State.withScan_strap (s : State) (x : Scan) : (s.withScan x).strap = s.strap := rfl
@[simp] theorem State.withScan_link (s : State) (x : Scan) : (s.withScan x).link = s.link := rfl
@[simp] theorem State.withScan_time (s : State) (x : Scan) : (s.withScan x).time = s.time := rfl
@[simp] theorem State.withScan_cameras (s : State) (x : Scan) : (s.withScan x).cameras = s.cameras := rfl
@[simp] theorem State.withScan_scan (s : State) (x : Scan) : (s.withScan x).scan = x := rfl
@[simp] theorem State.withScan_panes (s : State) (x : Scan) : (s.withScan x).panes = s.panes := rfl
@[simp] theorem State.withScan_overlay (s : State) (x : Scan) : (s.withScan x).overlay = s.overlay := rfl
@[simp] theorem State.withScan_lines (s : State) (x : Scan) : (s.withScan x).lines = s.lines := rfl
@[simp] theorem State.withScan_rate (s : State) (x : Scan) : (s.withScan x).rate = s.rate := rfl
@[simp] theorem State.withScan_alert (s : State) (x : Scan) : (s.withScan x).alert = s.alert := rfl
@[simp] theorem State.withScan_views (s : State) (x : Scan) : (s.withScan x).views = s.views := rfl
@[simp] theorem State.withScan_stack (s : State) (x : Scan) : (s.withScan x).stack = s.stack := rfl
@[simp] theorem State.withScan_command (s : State) (x : Scan) : (s.withScan x).command = s.command := rfl
@[simp] theorem State.withScan_events (s : State) (x : Scan) : (s.withScan x).events = s.events := rfl
@[simp] theorem State.withScan_free (s : State) (x : Scan) : (s.withScan x).free = s.free := rfl

@[simp] theorem State.withPanes_pending (s : State) (x : Vector (Option PaneRec) 16) : (s.withPanes x).pending = s.pending := rfl
@[simp] theorem State.withPanes_resetLow (s : State) (x : Vector (Option PaneRec) 16) : (s.withPanes x).resetLow = s.resetLow := rfl
@[simp] theorem State.withPanes_strap (s : State) (x : Vector (Option PaneRec) 16) : (s.withPanes x).strap = s.strap := rfl
@[simp] theorem State.withPanes_link (s : State) (x : Vector (Option PaneRec) 16) : (s.withPanes x).link = s.link := rfl
@[simp] theorem State.withPanes_time (s : State) (x : Vector (Option PaneRec) 16) : (s.withPanes x).time = s.time := rfl
@[simp] theorem State.withPanes_cameras (s : State) (x : Vector (Option PaneRec) 16) : (s.withPanes x).cameras = s.cameras := rfl
@[simp] theorem State.withPanes_scan (s : State) (x : Vector (Option PaneRec) 16) : (s.withPanes x).scan = s.scan := rfl
@[simp] theorem State.withPanes_panes (s : State) (x : Vector (Option PaneRec) 16) : (s.withPanes x).panes = x := rfl
@[simp] theorem State.withPanes_overlay (s : State) (x : Vector (Option PaneRec) 16) : (s.withPanes x).overlay = s.overlay := rfl
@[simp] theorem State.withPanes_lines (s : State) (x : Vector (Option PaneRec) 16) : (s.withPanes x).lines = s.lines := rfl
@[simp] theorem State.withPanes_rate (s : State) (x : Vector (Option PaneRec) 16) : (s.withPanes x).rate = s.rate := rfl
@[simp] theorem State.withPanes_alert (s : State) (x : Vector (Option PaneRec) 16) : (s.withPanes x).alert = s.alert := rfl
@[simp] theorem State.withPanes_views (s : State) (x : Vector (Option PaneRec) 16) : (s.withPanes x).views = s.views := rfl
@[simp] theorem State.withPanes_stack (s : State) (x : Vector (Option PaneRec) 16) : (s.withPanes x).stack = s.stack := rfl
@[simp] theorem State.withPanes_command (s : State) (x : Vector (Option PaneRec) 16) : (s.withPanes x).command = s.command := rfl
@[simp] theorem State.withPanes_events (s : State) (x : Vector (Option PaneRec) 16) : (s.withPanes x).events = s.events := rfl
@[simp] theorem State.withPanes_free (s : State) (x : Vector (Option PaneRec) 16) : (s.withPanes x).free = s.free := rfl

@[simp] theorem State.withOverlay_pending (s : State) (x : Overlay) : (s.withOverlay x).pending = s.pending := rfl
@[simp] theorem State.withOverlay_resetLow (s : State) (x : Overlay) : (s.withOverlay x).resetLow = s.resetLow := rfl
@[simp] theorem State.withOverlay_strap (s : State) (x : Overlay) : (s.withOverlay x).strap = s.strap := rfl
@[simp] theorem State.withOverlay_link (s : State) (x : Overlay) : (s.withOverlay x).link = s.link := rfl
@[simp] theorem State.withOverlay_time (s : State) (x : Overlay) : (s.withOverlay x).time = s.time := rfl
@[simp] theorem State.withOverlay_cameras (s : State) (x : Overlay) : (s.withOverlay x).cameras = s.cameras := rfl
@[simp] theorem State.withOverlay_scan (s : State) (x : Overlay) : (s.withOverlay x).scan = s.scan := rfl
@[simp] theorem State.withOverlay_panes (s : State) (x : Overlay) : (s.withOverlay x).panes = s.panes := rfl
@[simp] theorem State.withOverlay_overlay (s : State) (x : Overlay) : (s.withOverlay x).overlay = x := rfl
@[simp] theorem State.withOverlay_lines (s : State) (x : Overlay) : (s.withOverlay x).lines = s.lines := rfl
@[simp] theorem State.withOverlay_rate (s : State) (x : Overlay) : (s.withOverlay x).rate = s.rate := rfl
@[simp] theorem State.withOverlay_alert (s : State) (x : Overlay) : (s.withOverlay x).alert = s.alert := rfl
@[simp] theorem State.withOverlay_views (s : State) (x : Overlay) : (s.withOverlay x).views = s.views := rfl
@[simp] theorem State.withOverlay_stack (s : State) (x : Overlay) : (s.withOverlay x).stack = s.stack := rfl
@[simp] theorem State.withOverlay_command (s : State) (x : Overlay) : (s.withOverlay x).command = s.command := rfl
@[simp] theorem State.withOverlay_events (s : State) (x : Overlay) : (s.withOverlay x).events = s.events := rfl
@[simp] theorem State.withOverlay_free (s : State) (x : Overlay) : (s.withOverlay x).free = s.free := rfl

@[simp] theorem State.withLines_pending (s : State) (x : Vector VehicleLine 8) : (s.withLines x).pending = s.pending := rfl
@[simp] theorem State.withLines_resetLow (s : State) (x : Vector VehicleLine 8) : (s.withLines x).resetLow = s.resetLow := rfl
@[simp] theorem State.withLines_strap (s : State) (x : Vector VehicleLine 8) : (s.withLines x).strap = s.strap := rfl
@[simp] theorem State.withLines_link (s : State) (x : Vector VehicleLine 8) : (s.withLines x).link = s.link := rfl
@[simp] theorem State.withLines_time (s : State) (x : Vector VehicleLine 8) : (s.withLines x).time = s.time := rfl
@[simp] theorem State.withLines_cameras (s : State) (x : Vector VehicleLine 8) : (s.withLines x).cameras = s.cameras := rfl
@[simp] theorem State.withLines_scan (s : State) (x : Vector VehicleLine 8) : (s.withLines x).scan = s.scan := rfl
@[simp] theorem State.withLines_panes (s : State) (x : Vector VehicleLine 8) : (s.withLines x).panes = s.panes := rfl
@[simp] theorem State.withLines_overlay (s : State) (x : Vector VehicleLine 8) : (s.withLines x).overlay = s.overlay := rfl
@[simp] theorem State.withLines_lines (s : State) (x : Vector VehicleLine 8) : (s.withLines x).lines = x := rfl
@[simp] theorem State.withLines_rate (s : State) (x : Vector VehicleLine 8) : (s.withLines x).rate = s.rate := rfl
@[simp] theorem State.withLines_alert (s : State) (x : Vector VehicleLine 8) : (s.withLines x).alert = s.alert := rfl
@[simp] theorem State.withLines_views (s : State) (x : Vector VehicleLine 8) : (s.withLines x).views = s.views := rfl
@[simp] theorem State.withLines_stack (s : State) (x : Vector VehicleLine 8) : (s.withLines x).stack = s.stack := rfl
@[simp] theorem State.withLines_command (s : State) (x : Vector VehicleLine 8) : (s.withLines x).command = s.command := rfl
@[simp] theorem State.withLines_events (s : State) (x : Vector VehicleLine 8) : (s.withLines x).events = s.events := rfl
@[simp] theorem State.withLines_free (s : State) (x : Vector VehicleLine 8) : (s.withLines x).free = s.free := rfl

@[simp] theorem State.withRate_pending (s : State) (x : Rate) : (s.withRate x).pending = s.pending := rfl
@[simp] theorem State.withRate_resetLow (s : State) (x : Rate) : (s.withRate x).resetLow = s.resetLow := rfl
@[simp] theorem State.withRate_strap (s : State) (x : Rate) : (s.withRate x).strap = s.strap := rfl
@[simp] theorem State.withRate_link (s : State) (x : Rate) : (s.withRate x).link = s.link := rfl
@[simp] theorem State.withRate_time (s : State) (x : Rate) : (s.withRate x).time = s.time := rfl
@[simp] theorem State.withRate_cameras (s : State) (x : Rate) : (s.withRate x).cameras = s.cameras := rfl
@[simp] theorem State.withRate_scan (s : State) (x : Rate) : (s.withRate x).scan = s.scan := rfl
@[simp] theorem State.withRate_panes (s : State) (x : Rate) : (s.withRate x).panes = s.panes := rfl
@[simp] theorem State.withRate_overlay (s : State) (x : Rate) : (s.withRate x).overlay = s.overlay := rfl
@[simp] theorem State.withRate_lines (s : State) (x : Rate) : (s.withRate x).lines = s.lines := rfl
@[simp] theorem State.withRate_rate (s : State) (x : Rate) : (s.withRate x).rate = x := rfl
@[simp] theorem State.withRate_alert (s : State) (x : Rate) : (s.withRate x).alert = s.alert := rfl
@[simp] theorem State.withRate_views (s : State) (x : Rate) : (s.withRate x).views = s.views := rfl
@[simp] theorem State.withRate_stack (s : State) (x : Rate) : (s.withRate x).stack = s.stack := rfl
@[simp] theorem State.withRate_command (s : State) (x : Rate) : (s.withRate x).command = s.command := rfl
@[simp] theorem State.withRate_events (s : State) (x : Rate) : (s.withRate x).events = s.events := rfl
@[simp] theorem State.withRate_free (s : State) (x : Rate) : (s.withRate x).free = s.free := rfl

@[simp] theorem State.withAlert_pending (s : State) (x : Alert) : (s.withAlert x).pending = s.pending := rfl
@[simp] theorem State.withAlert_resetLow (s : State) (x : Alert) : (s.withAlert x).resetLow = s.resetLow := rfl
@[simp] theorem State.withAlert_strap (s : State) (x : Alert) : (s.withAlert x).strap = s.strap := rfl
@[simp] theorem State.withAlert_link (s : State) (x : Alert) : (s.withAlert x).link = s.link := rfl
@[simp] theorem State.withAlert_time (s : State) (x : Alert) : (s.withAlert x).time = s.time := rfl
@[simp] theorem State.withAlert_cameras (s : State) (x : Alert) : (s.withAlert x).cameras = s.cameras := rfl
@[simp] theorem State.withAlert_scan (s : State) (x : Alert) : (s.withAlert x).scan = s.scan := rfl
@[simp] theorem State.withAlert_panes (s : State) (x : Alert) : (s.withAlert x).panes = s.panes := rfl
@[simp] theorem State.withAlert_overlay (s : State) (x : Alert) : (s.withAlert x).overlay = s.overlay := rfl
@[simp] theorem State.withAlert_lines (s : State) (x : Alert) : (s.withAlert x).lines = s.lines := rfl
@[simp] theorem State.withAlert_rate (s : State) (x : Alert) : (s.withAlert x).rate = s.rate := rfl
@[simp] theorem State.withAlert_alert (s : State) (x : Alert) : (s.withAlert x).alert = x := rfl
@[simp] theorem State.withAlert_views (s : State) (x : Alert) : (s.withAlert x).views = s.views := rfl
@[simp] theorem State.withAlert_stack (s : State) (x : Alert) : (s.withAlert x).stack = s.stack := rfl
@[simp] theorem State.withAlert_command (s : State) (x : Alert) : (s.withAlert x).command = s.command := rfl
@[simp] theorem State.withAlert_events (s : State) (x : Alert) : (s.withAlert x).events = s.events := rfl
@[simp] theorem State.withAlert_free (s : State) (x : Alert) : (s.withAlert x).free = s.free := rfl

@[simp] theorem State.withViews_pending (s : State) (x : Vector View 8) : (s.withViews x).pending = s.pending := rfl
@[simp] theorem State.withViews_resetLow (s : State) (x : Vector View 8) : (s.withViews x).resetLow = s.resetLow := rfl
@[simp] theorem State.withViews_strap (s : State) (x : Vector View 8) : (s.withViews x).strap = s.strap := rfl
@[simp] theorem State.withViews_link (s : State) (x : Vector View 8) : (s.withViews x).link = s.link := rfl
@[simp] theorem State.withViews_time (s : State) (x : Vector View 8) : (s.withViews x).time = s.time := rfl
@[simp] theorem State.withViews_cameras (s : State) (x : Vector View 8) : (s.withViews x).cameras = s.cameras := rfl
@[simp] theorem State.withViews_scan (s : State) (x : Vector View 8) : (s.withViews x).scan = s.scan := rfl
@[simp] theorem State.withViews_panes (s : State) (x : Vector View 8) : (s.withViews x).panes = s.panes := rfl
@[simp] theorem State.withViews_overlay (s : State) (x : Vector View 8) : (s.withViews x).overlay = s.overlay := rfl
@[simp] theorem State.withViews_lines (s : State) (x : Vector View 8) : (s.withViews x).lines = s.lines := rfl
@[simp] theorem State.withViews_rate (s : State) (x : Vector View 8) : (s.withViews x).rate = s.rate := rfl
@[simp] theorem State.withViews_alert (s : State) (x : Vector View 8) : (s.withViews x).alert = s.alert := rfl
@[simp] theorem State.withViews_views (s : State) (x : Vector View 8) : (s.withViews x).views = x := rfl
@[simp] theorem State.withViews_stack (s : State) (x : Vector View 8) : (s.withViews x).stack = s.stack := rfl
@[simp] theorem State.withViews_command (s : State) (x : Vector View 8) : (s.withViews x).command = s.command := rfl
@[simp] theorem State.withViews_events (s : State) (x : Vector View 8) : (s.withViews x).events = s.events := rfl
@[simp] theorem State.withViews_free (s : State) (x : Vector View 8) : (s.withViews x).free = s.free := rfl

@[simp] theorem State.withStack_pending (s : State) (x : List StackEntry) : (s.withStack x).pending = s.pending := rfl
@[simp] theorem State.withStack_resetLow (s : State) (x : List StackEntry) : (s.withStack x).resetLow = s.resetLow := rfl
@[simp] theorem State.withStack_strap (s : State) (x : List StackEntry) : (s.withStack x).strap = s.strap := rfl
@[simp] theorem State.withStack_link (s : State) (x : List StackEntry) : (s.withStack x).link = s.link := rfl
@[simp] theorem State.withStack_time (s : State) (x : List StackEntry) : (s.withStack x).time = s.time := rfl
@[simp] theorem State.withStack_cameras (s : State) (x : List StackEntry) : (s.withStack x).cameras = s.cameras := rfl
@[simp] theorem State.withStack_scan (s : State) (x : List StackEntry) : (s.withStack x).scan = s.scan := rfl
@[simp] theorem State.withStack_panes (s : State) (x : List StackEntry) : (s.withStack x).panes = s.panes := rfl
@[simp] theorem State.withStack_overlay (s : State) (x : List StackEntry) : (s.withStack x).overlay = s.overlay := rfl
@[simp] theorem State.withStack_lines (s : State) (x : List StackEntry) : (s.withStack x).lines = s.lines := rfl
@[simp] theorem State.withStack_rate (s : State) (x : List StackEntry) : (s.withStack x).rate = s.rate := rfl
@[simp] theorem State.withStack_alert (s : State) (x : List StackEntry) : (s.withStack x).alert = s.alert := rfl
@[simp] theorem State.withStack_views (s : State) (x : List StackEntry) : (s.withStack x).views = s.views := rfl
@[simp] theorem State.withStack_stack (s : State) (x : List StackEntry) : (s.withStack x).stack = x := rfl
@[simp] theorem State.withStack_command (s : State) (x : List StackEntry) : (s.withStack x).command = s.command := rfl
@[simp] theorem State.withStack_events (s : State) (x : List StackEntry) : (s.withStack x).events = s.events := rfl
@[simp] theorem State.withStack_free (s : State) (x : List StackEntry) : (s.withStack x).free = s.free := rfl

@[simp] theorem State.withCommand_pending (s : State) (x : CommandUnit) : (s.withCommand x).pending = s.pending := rfl
@[simp] theorem State.withCommand_resetLow (s : State) (x : CommandUnit) : (s.withCommand x).resetLow = s.resetLow := rfl
@[simp] theorem State.withCommand_strap (s : State) (x : CommandUnit) : (s.withCommand x).strap = s.strap := rfl
@[simp] theorem State.withCommand_link (s : State) (x : CommandUnit) : (s.withCommand x).link = s.link := rfl
@[simp] theorem State.withCommand_time (s : State) (x : CommandUnit) : (s.withCommand x).time = s.time := rfl
@[simp] theorem State.withCommand_cameras (s : State) (x : CommandUnit) : (s.withCommand x).cameras = s.cameras := rfl
@[simp] theorem State.withCommand_scan (s : State) (x : CommandUnit) : (s.withCommand x).scan = s.scan := rfl
@[simp] theorem State.withCommand_panes (s : State) (x : CommandUnit) : (s.withCommand x).panes = s.panes := rfl
@[simp] theorem State.withCommand_overlay (s : State) (x : CommandUnit) : (s.withCommand x).overlay = s.overlay := rfl
@[simp] theorem State.withCommand_lines (s : State) (x : CommandUnit) : (s.withCommand x).lines = s.lines := rfl
@[simp] theorem State.withCommand_rate (s : State) (x : CommandUnit) : (s.withCommand x).rate = s.rate := rfl
@[simp] theorem State.withCommand_alert (s : State) (x : CommandUnit) : (s.withCommand x).alert = s.alert := rfl
@[simp] theorem State.withCommand_views (s : State) (x : CommandUnit) : (s.withCommand x).views = s.views := rfl
@[simp] theorem State.withCommand_stack (s : State) (x : CommandUnit) : (s.withCommand x).stack = s.stack := rfl
@[simp] theorem State.withCommand_command (s : State) (x : CommandUnit) : (s.withCommand x).command = x := rfl
@[simp] theorem State.withCommand_events (s : State) (x : CommandUnit) : (s.withCommand x).events = s.events := rfl
@[simp] theorem State.withCommand_free (s : State) (x : CommandUnit) : (s.withCommand x).free = s.free := rfl

@[simp] theorem State.withEvents_pending (s : State) (x : Vector EventRec 14) : (s.withEvents x).pending = s.pending := rfl
@[simp] theorem State.withEvents_resetLow (s : State) (x : Vector EventRec 14) : (s.withEvents x).resetLow = s.resetLow := rfl
@[simp] theorem State.withEvents_strap (s : State) (x : Vector EventRec 14) : (s.withEvents x).strap = s.strap := rfl
@[simp] theorem State.withEvents_link (s : State) (x : Vector EventRec 14) : (s.withEvents x).link = s.link := rfl
@[simp] theorem State.withEvents_time (s : State) (x : Vector EventRec 14) : (s.withEvents x).time = s.time := rfl
@[simp] theorem State.withEvents_cameras (s : State) (x : Vector EventRec 14) : (s.withEvents x).cameras = s.cameras := rfl
@[simp] theorem State.withEvents_scan (s : State) (x : Vector EventRec 14) : (s.withEvents x).scan = s.scan := rfl
@[simp] theorem State.withEvents_panes (s : State) (x : Vector EventRec 14) : (s.withEvents x).panes = s.panes := rfl
@[simp] theorem State.withEvents_overlay (s : State) (x : Vector EventRec 14) : (s.withEvents x).overlay = s.overlay := rfl
@[simp] theorem State.withEvents_lines (s : State) (x : Vector EventRec 14) : (s.withEvents x).lines = s.lines := rfl
@[simp] theorem State.withEvents_rate (s : State) (x : Vector EventRec 14) : (s.withEvents x).rate = s.rate := rfl
@[simp] theorem State.withEvents_alert (s : State) (x : Vector EventRec 14) : (s.withEvents x).alert = s.alert := rfl
@[simp] theorem State.withEvents_views (s : State) (x : Vector EventRec 14) : (s.withEvents x).views = s.views := rfl
@[simp] theorem State.withEvents_stack (s : State) (x : Vector EventRec 14) : (s.withEvents x).stack = s.stack := rfl
@[simp] theorem State.withEvents_command (s : State) (x : Vector EventRec 14) : (s.withEvents x).command = s.command := rfl
@[simp] theorem State.withEvents_events (s : State) (x : Vector EventRec 14) : (s.withEvents x).events = x := rfl
@[simp] theorem State.withEvents_free (s : State) (x : Vector EventRec 14) : (s.withEvents x).free = s.free := rfl

@[simp] theorem State.setCamera_pending (s : State) (c : Fin 6) (x : Camera) : (s.setCamera c x).pending = s.pending := rfl
@[simp] theorem State.setCamera_resetLow (s : State) (c : Fin 6) (x : Camera) : (s.setCamera c x).resetLow = s.resetLow := rfl
@[simp] theorem State.setCamera_strap (s : State) (c : Fin 6) (x : Camera) : (s.setCamera c x).strap = s.strap := rfl
@[simp] theorem State.setCamera_link (s : State) (c : Fin 6) (x : Camera) : (s.setCamera c x).link = s.link := rfl
@[simp] theorem State.setCamera_time (s : State) (c : Fin 6) (x : Camera) : (s.setCamera c x).time = s.time := rfl
@[simp] theorem State.setCamera_cameras (s : State) (c : Fin 6) (x : Camera) : (s.setCamera c x).cameras = s.cameras.set c x := rfl
@[simp] theorem State.setCamera_scan (s : State) (c : Fin 6) (x : Camera) : (s.setCamera c x).scan = s.scan := rfl
@[simp] theorem State.setCamera_panes (s : State) (c : Fin 6) (x : Camera) : (s.setCamera c x).panes = s.panes := rfl
@[simp] theorem State.setCamera_overlay (s : State) (c : Fin 6) (x : Camera) : (s.setCamera c x).overlay = s.overlay := rfl
@[simp] theorem State.setCamera_lines (s : State) (c : Fin 6) (x : Camera) : (s.setCamera c x).lines = s.lines := rfl
@[simp] theorem State.setCamera_rate (s : State) (c : Fin 6) (x : Camera) : (s.setCamera c x).rate = s.rate := rfl
@[simp] theorem State.setCamera_alert (s : State) (c : Fin 6) (x : Camera) : (s.setCamera c x).alert = s.alert := rfl
@[simp] theorem State.setCamera_views (s : State) (c : Fin 6) (x : Camera) : (s.setCamera c x).views = s.views := rfl
@[simp] theorem State.setCamera_stack (s : State) (c : Fin 6) (x : Camera) : (s.setCamera c x).stack = s.stack := rfl
@[simp] theorem State.setCamera_command (s : State) (c : Fin 6) (x : Camera) : (s.setCamera c x).command = s.command := rfl
@[simp] theorem State.setCamera_events (s : State) (c : Fin 6) (x : Camera) : (s.setCamera c x).events = s.events := rfl
@[simp] theorem State.setCamera_free (s : State) (c : Fin 6) (x : Camera) : (s.setCamera c x).free = s.free := rfl

@[simp] theorem State.setVehicleLine_pending (s : State) (n : Fin 8) (x : VehicleLine) : (s.setVehicleLine n x).pending = s.pending := rfl
@[simp] theorem State.setVehicleLine_resetLow (s : State) (n : Fin 8) (x : VehicleLine) : (s.setVehicleLine n x).resetLow = s.resetLow := rfl
@[simp] theorem State.setVehicleLine_strap (s : State) (n : Fin 8) (x : VehicleLine) : (s.setVehicleLine n x).strap = s.strap := rfl
@[simp] theorem State.setVehicleLine_link (s : State) (n : Fin 8) (x : VehicleLine) : (s.setVehicleLine n x).link = s.link := rfl
@[simp] theorem State.setVehicleLine_time (s : State) (n : Fin 8) (x : VehicleLine) : (s.setVehicleLine n x).time = s.time := rfl
@[simp] theorem State.setVehicleLine_cameras (s : State) (n : Fin 8) (x : VehicleLine) : (s.setVehicleLine n x).cameras = s.cameras := rfl
@[simp] theorem State.setVehicleLine_scan (s : State) (n : Fin 8) (x : VehicleLine) : (s.setVehicleLine n x).scan = s.scan := rfl
@[simp] theorem State.setVehicleLine_panes (s : State) (n : Fin 8) (x : VehicleLine) : (s.setVehicleLine n x).panes = s.panes := rfl
@[simp] theorem State.setVehicleLine_overlay (s : State) (n : Fin 8) (x : VehicleLine) : (s.setVehicleLine n x).overlay = s.overlay := rfl
@[simp] theorem State.setVehicleLine_lines (s : State) (n : Fin 8) (x : VehicleLine) : (s.setVehicleLine n x).lines = s.lines.set n x := rfl
@[simp] theorem State.setVehicleLine_rate (s : State) (n : Fin 8) (x : VehicleLine) : (s.setVehicleLine n x).rate = s.rate := rfl
@[simp] theorem State.setVehicleLine_alert (s : State) (n : Fin 8) (x : VehicleLine) : (s.setVehicleLine n x).alert = s.alert := rfl
@[simp] theorem State.setVehicleLine_views (s : State) (n : Fin 8) (x : VehicleLine) : (s.setVehicleLine n x).views = s.views := rfl
@[simp] theorem State.setVehicleLine_stack (s : State) (n : Fin 8) (x : VehicleLine) : (s.setVehicleLine n x).stack = s.stack := rfl
@[simp] theorem State.setVehicleLine_command (s : State) (n : Fin 8) (x : VehicleLine) : (s.setVehicleLine n x).command = s.command := rfl
@[simp] theorem State.setVehicleLine_events (s : State) (n : Fin 8) (x : VehicleLine) : (s.setVehicleLine n x).events = s.events := rfl
@[simp] theorem State.setVehicleLine_free (s : State) (n : Fin 8) (x : VehicleLine) : (s.setVehicleLine n x).free = s.free := rfl

@[simp] theorem State.setViewRec_pending (s : State) (v : Fin 8) (x : View) : (s.setViewRec v x).pending = s.pending := rfl
@[simp] theorem State.setViewRec_resetLow (s : State) (v : Fin 8) (x : View) : (s.setViewRec v x).resetLow = s.resetLow := rfl
@[simp] theorem State.setViewRec_strap (s : State) (v : Fin 8) (x : View) : (s.setViewRec v x).strap = s.strap := rfl
@[simp] theorem State.setViewRec_link (s : State) (v : Fin 8) (x : View) : (s.setViewRec v x).link = s.link := rfl
@[simp] theorem State.setViewRec_time (s : State) (v : Fin 8) (x : View) : (s.setViewRec v x).time = s.time := rfl
@[simp] theorem State.setViewRec_cameras (s : State) (v : Fin 8) (x : View) : (s.setViewRec v x).cameras = s.cameras := rfl
@[simp] theorem State.setViewRec_scan (s : State) (v : Fin 8) (x : View) : (s.setViewRec v x).scan = s.scan := rfl
@[simp] theorem State.setViewRec_panes (s : State) (v : Fin 8) (x : View) : (s.setViewRec v x).panes = s.panes := rfl
@[simp] theorem State.setViewRec_overlay (s : State) (v : Fin 8) (x : View) : (s.setViewRec v x).overlay = s.overlay := rfl
@[simp] theorem State.setViewRec_lines (s : State) (v : Fin 8) (x : View) : (s.setViewRec v x).lines = s.lines := rfl
@[simp] theorem State.setViewRec_rate (s : State) (v : Fin 8) (x : View) : (s.setViewRec v x).rate = s.rate := rfl
@[simp] theorem State.setViewRec_alert (s : State) (v : Fin 8) (x : View) : (s.setViewRec v x).alert = s.alert := rfl
@[simp] theorem State.setViewRec_views (s : State) (v : Fin 8) (x : View) : (s.setViewRec v x).views = s.views.set v x := rfl
@[simp] theorem State.setViewRec_stack (s : State) (v : Fin 8) (x : View) : (s.setViewRec v x).stack = s.stack := rfl
@[simp] theorem State.setViewRec_command (s : State) (v : Fin 8) (x : View) : (s.setViewRec v x).command = s.command := rfl
@[simp] theorem State.setViewRec_events (s : State) (v : Fin 8) (x : View) : (s.setViewRec v x).events = s.events := rfl
@[simp] theorem State.setViewRec_free (s : State) (v : Fin 8) (x : View) : (s.setViewRec v x).free = s.free := rfl

@[simp] theorem State.setPaneRec_pending (s : State) (p : Fin 16) (x : Option PaneRec) : (s.setPaneRec p x).pending = s.pending := rfl
@[simp] theorem State.setPaneRec_resetLow (s : State) (p : Fin 16) (x : Option PaneRec) : (s.setPaneRec p x).resetLow = s.resetLow := rfl
@[simp] theorem State.setPaneRec_strap (s : State) (p : Fin 16) (x : Option PaneRec) : (s.setPaneRec p x).strap = s.strap := rfl
@[simp] theorem State.setPaneRec_link (s : State) (p : Fin 16) (x : Option PaneRec) : (s.setPaneRec p x).link = s.link := rfl
@[simp] theorem State.setPaneRec_time (s : State) (p : Fin 16) (x : Option PaneRec) : (s.setPaneRec p x).time = s.time := rfl
@[simp] theorem State.setPaneRec_cameras (s : State) (p : Fin 16) (x : Option PaneRec) : (s.setPaneRec p x).cameras = s.cameras := rfl
@[simp] theorem State.setPaneRec_scan (s : State) (p : Fin 16) (x : Option PaneRec) : (s.setPaneRec p x).scan = s.scan := rfl
@[simp] theorem State.setPaneRec_panes (s : State) (p : Fin 16) (x : Option PaneRec) : (s.setPaneRec p x).panes = s.panes.set p x := rfl
@[simp] theorem State.setPaneRec_overlay (s : State) (p : Fin 16) (x : Option PaneRec) : (s.setPaneRec p x).overlay = s.overlay := rfl
@[simp] theorem State.setPaneRec_lines (s : State) (p : Fin 16) (x : Option PaneRec) : (s.setPaneRec p x).lines = s.lines := rfl
@[simp] theorem State.setPaneRec_rate (s : State) (p : Fin 16) (x : Option PaneRec) : (s.setPaneRec p x).rate = s.rate := rfl
@[simp] theorem State.setPaneRec_alert (s : State) (p : Fin 16) (x : Option PaneRec) : (s.setPaneRec p x).alert = s.alert := rfl
@[simp] theorem State.setPaneRec_views (s : State) (p : Fin 16) (x : Option PaneRec) : (s.setPaneRec p x).views = s.views := rfl
@[simp] theorem State.setPaneRec_stack (s : State) (p : Fin 16) (x : Option PaneRec) : (s.setPaneRec p x).stack = s.stack := rfl
@[simp] theorem State.setPaneRec_command (s : State) (p : Fin 16) (x : Option PaneRec) : (s.setPaneRec p x).command = s.command := rfl
@[simp] theorem State.setPaneRec_events (s : State) (p : Fin 16) (x : Option PaneRec) : (s.setPaneRec p x).events = s.events := rfl
@[simp] theorem State.setPaneRec_free (s : State) (p : Fin 16) (x : Option PaneRec) : (s.setPaneRec p x).free = s.free := rfl

@[simp] theorem State.setSlot_pending (s : State) (k : Fin 2) (x : Option Context) : (s.setSlot k x).pending = s.pending := rfl
@[simp] theorem State.setSlot_resetLow (s : State) (k : Fin 2) (x : Option Context) : (s.setSlot k x).resetLow = s.resetLow := rfl
@[simp] theorem State.setSlot_strap (s : State) (k : Fin 2) (x : Option Context) : (s.setSlot k x).strap = s.strap := rfl
@[simp] theorem State.setSlot_link (s : State) (k : Fin 2) (x : Option Context) : (s.setSlot k x).link = s.link := rfl
@[simp] theorem State.setSlot_time (s : State) (k : Fin 2) (x : Option Context) : (s.setSlot k x).time = s.time := rfl
@[simp] theorem State.setSlot_cameras (s : State) (k : Fin 2) (x : Option Context) : (s.setSlot k x).cameras = s.cameras := rfl
@[simp] theorem State.setSlot_scan (s : State) (k : Fin 2) (x : Option Context) : (s.setSlot k x).scan = { s.scan with slots := s.scan.slots.set k x } := rfl
@[simp] theorem State.setSlot_panes (s : State) (k : Fin 2) (x : Option Context) : (s.setSlot k x).panes = s.panes := rfl
@[simp] theorem State.setSlot_overlay (s : State) (k : Fin 2) (x : Option Context) : (s.setSlot k x).overlay = s.overlay := rfl
@[simp] theorem State.setSlot_lines (s : State) (k : Fin 2) (x : Option Context) : (s.setSlot k x).lines = s.lines := rfl
@[simp] theorem State.setSlot_rate (s : State) (k : Fin 2) (x : Option Context) : (s.setSlot k x).rate = s.rate := rfl
@[simp] theorem State.setSlot_alert (s : State) (k : Fin 2) (x : Option Context) : (s.setSlot k x).alert = s.alert := rfl
@[simp] theorem State.setSlot_views (s : State) (k : Fin 2) (x : Option Context) : (s.setSlot k x).views = s.views := rfl
@[simp] theorem State.setSlot_stack (s : State) (k : Fin 2) (x : Option Context) : (s.setSlot k x).stack = s.stack := rfl
@[simp] theorem State.setSlot_command (s : State) (k : Fin 2) (x : Option Context) : (s.setSlot k x).command = s.command := rfl
@[simp] theorem State.setSlot_events (s : State) (k : Fin 2) (x : Option Context) : (s.setSlot k x).events = s.events := rfl
@[simp] theorem State.setSlot_free (s : State) (k : Fin 2) (x : Option Context) : (s.setSlot k x).free = s.free := rfl

end Sys2Proof.Machine
end

