-- ==== Sys2Proof/Laws/Frames.lean ====
section
/-! SUPPORT. For each shared operation of the blocks, the fields it can change: the state after it is the state before it with those fields alone replaced. A proof cites these in place of the operation's text. -/

namespace Sys2Proof.Machine

/-! ### The queue of events -/

@[simp] theorem State.withPending_pending (s : State) (q : List Instr) : (s.withPending q).pending = q := rfl

/-- A queue put in place of another changes nothing else. -/
theorem State.withPending_frame (s : State) (q : List Instr) : s.withPending q = { s with pending := q } := rfl

/-! ### Event latch -/

theorem State.raise_frame (s : State) (k : EventKind) : s.raise k = { s with events := (s.raise k).events } := rfl

/-- An occurrence leaves every other kind's record. -/
theorem State.raise_other (s : State) (k : EventKind) (i : Fin 14) (h : i ≠ k.index) : (s.raise k).events[i] = s.events[i] := by
  have : k.index.val ≠ i.val := fun e => h (Fin.ext e.symm)
  simp [State.raise, this]

/-- An occurrence pends its own kind and counts it. -/
theorem State.raise_own (s : State) (k : EventKind) : (s.raise k).events[k.index] = s.events[k.index].occur := by
  simp [State.raise]

theorem State.raiseTimes_frame (k : EventKind) : ∀ (n : Nat) (s : State),
    s.raiseTimes k n = { s with events := (s.raiseTimes k n).events }
  | 0, _ => rfl
  | n + 1, s => State.raiseTimes_frame k n (s.raise k)

/-- Occurrences of a kind, any number of them, leave every other kind's record. -/
theorem State.raiseTimes_other (k : EventKind) (i : Fin 14) (h : i ≠ k.index) : ∀ (n : Nat) (s : State),
    (s.raiseTimes k n).events[i] = s.events[i]
  | 0, _ => rfl
  | n + 1, s => (State.raiseTimes_other k i h n (s.raise k)).trans (s.raise_other k i h)

theorem State.setEventMasks_frame (s : State) (e u : BitVec 14) :
    s.setEventMasks e u = { s with events := (s.setEventMasks e u).events } := rfl

theorem State.acknowledge_frame (s : State) (m : BitVec 14) :
    s.acknowledge m = { s with events := (s.acknowledge m).events, time := (s.acknowledge m).time } := by
  unfold State.acknowledge; dsimp only; split <;> rfl

/-- An acknowledgement leaves the counter, the period and the clock-lost condition. -/
theorem State.acknowledge_time (s : State) (m : BitVec 14) :
    (s.acknowledge m).time = { s.time with wasLost := (s.acknowledge m).time.wasLost } := by
  unfold State.acknowledge; dsimp only; split <;> rfl

theorem State.resetEvents_frame (s : State) : s.resetEvents = { s with events := s.resetEvents.events } := rfl

/-! ### Alert Driver -/

theorem State.causeOn_frame (s : State) (c : Cause) : s.causeOn c = { s with alert := (s.causeOn c).alert } := by
  unfold State.causeOn; dsimp only; split <;> rfl

theorem State.causeOff_frame (s : State) (c : Cause) : s.causeOff c = { s with alert := (s.causeOff c).alert } := by
  unfold State.causeOff; dsimp only; split <;> rfl

theorem State.setStaleShown_frame (s : State) (b : Bool) : s.setStaleShown b =
    { s with scan := { s.scan with staleShown := b }, events := (s.setStaleShown b).events, alert := (s.setStaleShown b).alert } := by
  unfold State.setStaleShown
  split
  · next h => subst h; rfl
  · dsimp only
    split
    · rw [State.causeOn_frame]; rfl
    · rw [State.causeOff_frame]; rfl

theorem State.setScanStall_frame (s : State) (b : Bool) : s.setScanStall b =
    { s with scan := { s.scan with scanStall := b }, events := (s.setScanStall b).events, alert := (s.setScanStall b).alert } := by
  unfold State.setScanStall
  split
  · next h => subst h; rfl
  · dsimp only
    split
    · rw [State.causeOn_frame]; rfl
    · rw [State.causeOff_frame]; rfl

/-- A condition that becomes false raises nothing (R174). -/
theorem State.setStaleShown_false_events (s : State) : (s.setStaleShown false).events = s.events := by
  unfold State.setStaleShown
  split
  · rfl
  · simp only [Bool.false_eq_true, if_false]
    rw [State.causeOff_frame]; rfl

/-- A condition that becomes false raises nothing (R174). -/
theorem State.setScanStall_false_events (s : State) : (s.setScanStall false).events = s.events := by
  unfold State.setScanStall
  split
  · rfl
  · simp only [Bool.false_eq_true, if_false]
    rw [State.causeOff_frame]; rfl

theorem State.startChime_frame (s : State) : s.startChime = { s with alert := s.startChime.alert } := by
  unfold State.startChime; dsimp only
  split
  · rfl
  · exact State.causeOn_frame _ _

theorem State.endChime_frame (s : State) : s.endChime = { s with alert := s.endChime.alert } := by
  unfold State.endChime; dsimp only
  split
  · exact State.causeOff_frame _ _
  · rfl

theorem State.silence_frame (s : State) : s.silence = { s with alert := s.silence.alert } := rfl

/-! ### View Arbiter -/

theorem State.push_frame (s : State) (v : Fin 8) : s.push v = { s with stack := (s.push v).stack } := rfl

theorem State.admitOne_frame (s : State) (v : Fin 8) : s.admitOne v = { s with stack := (s.admitOne v).stack } := by
  unfold State.admitOne; split <;> rfl

/-- A fold of operations that change the stack alone changes the stack alone. -/
theorem foldl_stack_frame {f : State → Fin 8 → State} (h : ∀ s v, f s v = { s with stack := (f s v).stack }) :
    ∀ (l : List (Fin 8)) (s : State), l.foldl f s = { s with stack := (l.foldl f s).stack }
  | [], _ => rfl
  | v :: l, s => (foldl_stack_frame h l (f s v)).trans
      (congrArg (fun x : State => { x with stack := (l.foldl f (f s v)).stack }) (h s v))

theorem State.admitPending_frame (s : State) : s.admitPending = { s with stack := s.admitPending.stack } :=
  foldl_stack_frame State.admitOne_frame upViews s

theorem State.popTop_frame (s : State) : s.popTop = { s with stack := s.popTop.stack } := State.admitPending_frame _

theorem State.requestView_frame (s : State) (v : Fin 8) : s.requestView v = { s with stack := (s.requestView v).stack } := by
  unfold State.requestView
  split
  · rfl
  · split <;> rfl

theorem State.releaseView_frame (s : State) (v : Fin 8) : s.releaseView v = { s with stack := (s.releaseView v).stack } := by
  unfold State.releaseView
  split
  · split
    · exact State.popTop_frame s
    · rfl
  · rfl

theorem State.setTrigger_frame (s : State) (v : Fin 8) (h : TriggerHold) : s.setTrigger v h =
    { s with views := s.views.set v { s.views[v] with trigger := h }, stack := (s.setTrigger v h).stack } := by
  unfold State.setTrigger; dsimp only
  split
  · exact State.requestView_frame _ _
  · split
    · exact State.releaseView_frame _ _
    · rfl

theorem State.setCommandHold_frame (s : State) (v : Fin 8) (b : Bool) : s.setCommandHold v b =
    { s with views := s.views.set v { s.views[v] with command := b }, stack := (s.setCommandHold v b).stack } := by
  unfold State.setCommandHold; dsimp only
  split
  · exact State.requestView_frame _ _
  · split
    · exact State.releaseView_frame _ _
    · rfl

theorem State.endMatch_frame (s : State) (v : Fin 8) :
    s.endMatch v = { s with views := (s.endMatch v).views, stack := (s.endMatch v).stack } := by
  have h := State.setTrigger_frame s v (s.lingerHold v)
  unfold State.endMatch
  rw [h]

theorem State.enterMatch_frame (s : State) (v : Fin 8) :
    s.enterMatch v = { s with views := (s.enterMatch v).views, stack := (s.enterMatch v).stack } := by
  have h := State.setTrigger_frame s v .matching
  unfold State.enterMatch
  rw [h]

theorem State.endStep_frame (s : State) (v : Fin 8) :
    s.endStep v = { s with views := (s.endStep v).views, stack := (s.endStep v).stack } := by
  unfold State.endStep
  split
  · exact State.endMatch_frame _ _
  · rfl

theorem State.entryStep_frame (s : State) (v : Fin 8) :
    s.entryStep v = { s with views := (s.entryStep v).views, stack := (s.entryStep v).stack } := by
  unfold State.entryStep
  split
  · exact State.enterMatch_frame _ _
  · rfl

/-- A fold of operations that change the views and the stack alone changes these alone. -/
theorem foldl_views_frame {f : State → Fin 8 → State}
    (h : ∀ s v, f s v = { s with views := (f s v).views, stack := (f s v).stack }) :
    ∀ (l : List (Fin 8)) (s : State), l.foldl f s = { s with views := (l.foldl f s).views, stack := (l.foldl f s).stack }
  | [], _ => rfl
  | v :: l, s => (foldl_views_frame h l (f s v)).trans
      (congrArg (fun x : State => { x with views := (l.foldl f (f s v)).views, stack := (l.foldl f (f s v)).stack }) (h s v))

theorem State.conditionChange_frame (s : State) :
    s.conditionChange = { s with views := s.conditionChange.views, stack := s.conditionChange.stack } :=
  (foldl_views_frame State.entryStep_frame upViews _).trans
    (congrArg (fun x : State => { x with views := s.conditionChange.views, stack := s.conditionChange.stack })
      (foldl_views_frame State.endStep_frame downViews s))

theorem State.handOn_frame (s : State) (old : BitVec 9) :
    s.handOn old = { s with views := (s.handOn old).views, stack := (s.handOn old).stack } := by
  unfold State.handOn
  split
  · rfl
  · exact State.conditionChange_frame s

theorem State.truncate_frame (s : State) (n : Nat) :
    s.truncate n = { s with views := (s.truncate n).views, stack := (s.truncate n).stack } := by
  unfold State.truncate; dsimp only
  generalize (Vector.ofFn _ : Vector View 8) = w
  generalize cascade _ = l
  have h := State.admitPending_frame ((s.withViews w).withStack l)
  generalize ((s.withViews w).withStack l).admitPending = t at h ⊢
  rw [h]; rfl

/-! ### Line Conditioner -/

/-- The fields that a debounced level's change reaches. -/
def State.lineFrame (s t : State) : State :=
  { s with lines := t.lines, rate := t.rate, events := t.events, views := t.views, stack := t.stack }

/-- Frames of the line operations compose. -/
theorem State.lineFrame_trans {s t u : State} (h : t = s.lineFrame t) (k : u = t.lineFrame u) : u = s.lineFrame u :=
  k.trans ((congrArg (fun x : State => x.lineFrame u) h).trans rfl)

theorem State.handOn_lineFrame (s : State) (old : BitVec 9) : s.handOn old = s.lineFrame (s.handOn old) := by
  have h := State.handOn_frame s old
  unfold State.lineFrame
  rw [h]

theorem State.takeDebounced_frame (s : State) (n : Fin 8) (b : Bool) : s.takeDebounced n b = s.lineFrame (s.takeDebounced n b) := by
  unfold State.takeDebounced; dsimp only
  refine State.lineFrame_trans ?_ (State.handOn_lineFrame _ _)
  split <;> split <;> rfl

theorem State.rawChanged_frame (s : State) (n : Fin 8) : s.rawChanged n = s.lineFrame (s.rawChanged n) := by
  unfold State.rawChanged; dsimp only
  split
  · rfl
  · split
    · rfl
    · split
      · exact State.takeDebounced_frame _ _ _
      · rfl

theorem State.setOutside_frame (s : State) (n : Fin 8) (o : Outside) : s.setOutside n o = s.lineFrame (s.setOutside n o) := by
  unfold State.setOutside; dsimp only
  split
  · rfl
  · exact State.rawChanged_frame (s.setVehicleLine n { s.lines[n] with outside := o }) n

theorem State.dropRateSource_frame (s : State) : s.dropRateSource = s.lineFrame s.dropRateSource :=
  State.handOn_lineFrame (s.withRate { s.rate with source := none, timer := none, running := 0, k8 := false }) s.conditions

theorem State.reconfigureInput_frame (s : State) (n : Fin 8) (c : LineConfig) :
    s.reconfigureInput n c = s.lineFrame (s.reconfigureInput n c) := by
  unfold State.reconfigureInput; dsimp only
  generalize hl : (if s.raw n = s.lines[n].debounced then _ else _ : VehicleLine) = l
  have h : (s.setVehicleLine n l).handOn s.conditions = s.lineFrame ((s.setVehicleLine n l).handOn s.conditions) :=
    State.lineFrame_trans (t := s.setVehicleLine n l) rfl (State.handOn_lineFrame _ _)
  split
  · exact h
  · exact State.lineFrame_trans h (State.rawChanged_frame _ n)

theorem State.inputToOutput_frame (s : State) (n : Fin 8) (c : LineConfig) :
    s.inputToOutput n c = s.lineFrame (s.inputToOutput n c) := by
  unfold State.inputToOutput; dsimp only
  have h := State.lineFrame_trans (s := s)
    (t := s.setVehicleLine n { s.lines[n] with config := c, debounced := false, timer := none }) rfl
    (State.handOn_lineFrame _ s.conditions)
  split
  · exact State.lineFrame_trans h (State.dropRateSource_frame _)
  · exact h

theorem State.outputToInput_frame (s : State) (n : Fin 8) (c : LineConfig) :
    s.outputToInput n c = s.lineFrame (s.outputToInput n c) := by
  unfold State.outputToInput; dsimp only
  exact State.lineFrame_trans rfl (State.handOn_lineFrame _ _)

theorem State.configureLine_frame (s : State) (n : Fin 8) (c : LineConfig) :
    s.configureLine n c = s.lineFrame (s.configureLine n c) := by
  unfold State.configureLine; dsimp only
  split
  · rfl
  · split
    · exact State.reconfigureInput_frame s n c
    · exact State.inputToOutput_frame s n c
    · exact State.outputToInput_frame s n c
    · rfl

theorem State.configureRate_frame (s : State) (x : Option (Fin 8)) (n : Nat) :
    s.configureRate x n = s.lineFrame (s.configureRate x n) := by
  unfold State.configureRate
  exact State.lineFrame_trans rfl (State.handOn_lineFrame _ _)

theorem State.endRateWindow_frame (s : State) : s.endRateWindow = s.lineFrame s.endRateWindow := by
  unfold State.endRateWindow; dsimp only
  exact State.lineFrame_trans rfl (State.handOn_lineFrame _ _)

theorem State.resetLines_frame (s : State) : s.resetLines = { s with lines := s.resetLines.lines, rate := State.reset.rate } := rfl

/-! ### Capture Monitor -/

theorem State.lockedBufferCheck_frame (s : State) (c : Fin 6) (k : Nat) : s.lockedBufferCheck c k =
    { s with scan := { s.scan with slots := (s.lockedBufferCheck c k).scan.slots }, events := (s.lockedBufferCheck c k).events } := by
  unfold State.lockedBufferCheck; dsimp only; split <;> rfl

theorem State.updateRecord_frame (s : State) (c : Fin 6) (old new : CaptureRec) : s.updateRecord c old new =
    { s with cameras := s.cameras.set c { s.cameras[c] with record := some new },
             events := (s.updateRecord c old new).events } := by
  unfold State.updateRecord; dsimp only; split <;> rfl

/-- The fields that a capture write or a redefinition reaches. -/
def State.captureFrame (s t : State) : State :=
  { s with cameras := t.cameras, scan := { s.scan with slots := t.scan.slots }, events := t.events }

/-- Frames of the capture operations compose. -/
theorem State.captureFrame_trans {s t u : State} (h : t = s.captureFrame t) (k : u = t.captureFrame u) : u = s.captureFrame u :=
  k.trans ((congrArg (fun x : State => x.captureFrame u) h).trans rfl)

theorem State.captureBeat_frame (s : State) (c : Fin 6) (k : Nat) (kind : BeatKind) :
    s.captureBeat c k kind = s.captureFrame (s.captureBeat c k kind) := by
  unfold State.captureBeat
  split
  · rfl
  · next r _ =>
    dsimp only
    generalize ho : CaptureRec.refresh r _ k s.time.ms = new
    have h1 : s.updateRecord c r new = s.captureFrame (s.updateRecord c r new) := by
      have h := State.updateRecord_frame s c r new
      unfold State.captureFrame; rw [h]
    have h2 : ∀ b : Bool, (if b then (s.updateRecord c r new).raise .corruptFrame else s.updateRecord c r new)
        = s.captureFrame (if b then (s.updateRecord c r new).raise .corruptFrame else s.updateRecord c r new) := by
      intro b
      cases b
      · exact h1
      · exact State.captureFrame_trans h1 rfl
    have h3 : ∀ t : State, t.lockedBufferCheck c k = t.captureFrame (t.lockedBufferCheck c k) := by
      intro t
      have h := State.lockedBufferCheck_frame t c k
      unfold State.captureFrame; rw [h]
    split
    · exact State.captureFrame_trans (h2 _) (h3 _)
    · exact h2 _

theorem State.expireLateness_frame (s : State) (c : Fin 6) :
    s.expireLateness c = { s with cameras := (s.expireLateness c).cameras, events := (s.expireLateness c).events } := by
  unfold State.expireLateness
  split
  · rfl
  · next r _ =>
    have h := State.updateRecord_frame s c r { r with state := if r.state = .fresh then .late else r.state, lateness := none }
    rw [h]

theorem State.supersede_frame (s : State) (c : Fin 6) :
    s.supersede c = { s with scan := { s.scan with slots := (s.supersede c).scan.slots } } := rfl

/-- Superseding the locks of several cameras changes the slots alone. -/
theorem foldl_supersede_frame : ∀ (l : List (Fin 6)) (s : State), l.foldl State.supersede s =
    { s with scan := { s.scan with slots := (l.foldl State.supersede s).scan.slots } }
  | [], _ => rfl
  | c :: l, s => foldl_supersede_frame l (s.supersede c)

theorem State.redefine_frame (s : State) (c : Fin 6) (r : Option CaptureRec) : s.redefine c r = s.captureFrame (s.redefine c r) := by
  unfold State.redefine; dsimp only; split <;> rfl

theorem State.resetCameras_frame (s : State) : s.resetCameras = { s with
    cameras := s.resetCameras.cameras, scan := { s.scan with slots := s.resetCameras.scan.slots } } := by
  unfold State.resetCameras; dsimp only
  generalize (Vector.ofFn _ : Vector Camera 6) = w
  exact foldl_supersede_frame allCameras (s.withCameras w)

/-! ### Overlay Compositor -/

theorem State.beginEdit_frame (s : State) (e : Edit) (target : Bank) :
    (s.beginEdit e target).2 = { s with overlay := { s.overlay with engine := (s.beginEdit e target).2.overlay.engine } } := by
  unfold State.beginEdit; split <;> rfl

theorem State.startEdit_frame (s : State) (e : Edit) :
    (s.startEdit e).2 = { s with overlay := { s.overlay with engine := (s.startEdit e).2.overlay.engine } } := by
  unfold State.startEdit; dsimp only
  split
  · rfl
  · exact State.beginEdit_frame _ _ _

theorem State.finishEdit_frame (s : State) (e : Edit) (target : Bank) :
    s.finishEdit e target = { s with overlay := (s.finishEdit e target).overlay } := rfl

theorem State.flip_frame (s : State) : s.flip = { s with
    overlay := { s.overlay with active := s.overlay.active.other, flipWaiting := false }, events := s.flip.events } := rfl

/-! ### Frame contexts -/

theorem State.retireContexts_frame (s : State) :
    s.retireContexts = { s with scan := { s.scan with slots := s.retireContexts.scan.slots } } := rfl

/-- The fields that opening a context or leaving RUN reaches, the command unit's operating state apart. -/
def State.scanFrame (s t : State) : State :=
  { s with scan := t.scan, events := t.events, alert := t.alert, free := t.free }

/-- Frames of the scan operations compose. -/
theorem State.scanFrame_trans {s t u : State} (h : t = s.scanFrame t) (k : u = t.scanFrame u) : u = s.scanFrame u :=
  k.trans ((congrArg (fun x : State => x.scanFrame u) h).trans rfl)

theorem State.setScanStall_scanFrame (s : State) (b : Bool) : s.setScanStall b = s.scanFrame (s.setScanStall b) := by
  have h := State.setScanStall_frame s b
  unfold State.scanFrame; rw [h]

theorem State.setStaleShown_scanFrame (s : State) (b : Bool) : s.setStaleShown b = s.scanFrame (s.setStaleShown b) := by
  have h := State.setStaleShown_frame s b
  unfold State.scanFrame; rw [h]

theorem State.startChime_scanFrame (s : State) : s.startChime = s.scanFrame s.startChime := by
  have h := State.startChime_frame s
  unfold State.scanFrame; rw [h]

theorem State.showView_frame (s : State) (v : Fin 8) : s.showView v = s.scanFrame (s.showView v) := by
  unfold State.showView
  split
  · rfl
  · dsimp only
    split
    · exact State.scanFrame_trans rfl (State.startChime_scanFrame _)
    · rfl

theorem State.showAndUnstall_frame (s : State) (v : Fin 8) : s.showAndUnstall v = s.scanFrame (s.showAndUnstall v) := by
  unfold State.showAndUnstall
  split
  · dsimp only
    split
    · exact State.scanFrame_trans (State.scanFrame_trans (t := { s with free := s.free + 1 }) rfl (State.setScanStall_scanFrame _ _))
        (State.showView_frame _ _)
    · exact State.scanFrame_trans (State.scanFrame_trans (t := { s with free := s.free + 1 }) rfl (State.showView_frame _ _))
        (State.setScanStall_scanFrame _ _)
  · exact State.scanFrame_trans (State.showView_frame _ _) (State.setScanStall_scanFrame _ _)

theorem State.openContext_frame (s : State) (d : ScanDef) (k : Fin 2) : s.openContext d k = s.scanFrame (s.openContext d k) := by
  unfold State.openContext; dsimp only
  refine State.scanFrame_trans ?_ (State.setStaleShown_scanFrame _ _)
  refine State.scanFrame_trans ?_ (State.showAndUnstall_frame _ _)
  refine State.scanFrame_trans ?_ rfl
  refine State.scanFrame_trans ?_ rfl
  have h := State.raiseTimes_frame .configMismatch
    (mismatches (s.viewDef s.topView).panes (s.judgePanes d (s.viewDef s.topView).panes [])) s
  unfold State.scanFrame; rw [h]

theorem State.leaveRun_frame (s : State) : s.leaveRun = { s with
    scan := s.leaveRun.scan, alert := s.leaveRun.alert, command := { s.command with running := false } } := by
  unfold State.leaveRun
  split
  · dsimp only
    generalize hc : { s.command with running := false } = cmd
    generalize hx : { (s.withCommand cmd).scan with stallTimer := none } = x
    have h : ∀ u : State, (u.setScanStall false).setStaleShown false = { u with
        scan := ((u.setScanStall false).setStaleShown false).scan,
        alert := ((u.setScanStall false).setStaleShown false).alert } := fun u => by
      have h1 := State.setScanStall_frame u false
      have h2 := State.setStaleShown_frame (u.setScanStall false) false
      rw [State.setScanStall_false_events] at h1
      rw [State.setStaleShown_false_events, State.setScanStall_false_events] at h2
      generalize (u.setScanStall false).setStaleShown false = y at h2 ⊢
      generalize u.setScanStall false = x at h1 h2
      rw [h2, h1]
    rw [h]; rfl
  · next h =>
    simp only [Bool.not_eq_true] at h
    rw [← h]

/-! ### Command Unit -/

theorem State.complete_frame (s : State) (r : Result) :
    s.complete r = { s with command := (s.complete r).command, events := (s.complete r).events } := by
  unfold State.complete
  split
  · rfl
  · dsimp only; split <;> rfl

/-- A completion leaves the operating state, the assembly record, the sequence counter and the losses. -/
theorem State.complete_command (s : State) (r : Result) : (s.complete r).command = { s.command with
    queue := s.command.queue.tail, lastSeq := (s.complete r).command.lastSeq,
    lastResult := (s.complete r).command.lastResult, refused := (s.complete r).command.refused } := by
  unfold State.complete
  split
  · next h => simp [h]; rw [← h]
  · next q rest h =>
    dsimp only
    split
    · simp [h]
    · simp [h, State.raise]

theorem State.lose_frame (s : State) (c : LossCause) : s.lose c = { s with
    command := { s.command with lost := saturate 65535 s.command.lost, lossCause := some c }, events := (s.lose c).events } := rfl

theorem State.enqueue_frame (s : State) (ws : List Word) : s.enqueue ws = { s with command := { s.command with
    seq := s.command.seq + 1, queue := s.command.queue ++ [{ seq := s.command.seq + 1, words := ws }] } } := rfl

theorem State.setAssembly_frame (s : State) (a : Option Assembly) :
    s.setAssembly a = { s with command := { s.command with assembly := a } } := rfl

/-- A command handed to the Command Unit always answers a next state. -/
theorem State.submit_next (s : State) (len : BitVec 3) (ws : List Word) : s.submit len ws = .next
    (if s.commandBlocked then s else if framedLength len then s.commandComplete ws else s.lose .badLength) := rfl

/-! ### Link -/

theorem State.forward_frame (s : State) (r : Request) : s.forward r = { s with link := { s.link with memOut := some r } } := rfl

theorem State.addEntry_frame (s : State) (e : Entry) :
    s.addEntry e = { s with link := { s.link with table := s.link.table ++ [e] } } := rfl

theorem State.takePlain_frame (s : State) (r : ReadReq) (cls : ReadClass) (k : Option (Fin 2)) : s.takePlain r cls k = { s with
    link := { s.link with
      table := s.link.table ++ [{ tag := r.tag, addr := r.addr, beats := r.beats, cls := cls, context := k, redirect := none }],
      memOut := some (.read r) } } := rfl

theorem State.takeReadResponse_frame (s : State) (r : ReadResp) :
    s.takeReadResponse r = { s with link := (s.takeReadResponse r).link, events := (s.takeReadResponse r).events } := by
  unfold State.takeReadResponse; dsimp only; split <;> rfl

theorem State.takeWriteResponse_frame (s : State) (r : WriteResp) :
    s.takeWriteResponse r = { s with link := (s.takeWriteResponse r).link } := rfl

/-- The entries after the oldest of a tag has left are entries that were there. -/
theorem dropOldest_subset (tag : Tag) : ∀ (l : List Entry) (e : Entry), e ∈ dropOldest tag l → e ∈ l
  | [], _, h => h
  | x :: rest, e, h => by
    unfold dropOldest at h
    split at h
    · exact List.mem_cons_of_mem _ h
    · rcases List.mem_cons.mp h with h | h
      · exact h ▸ List.mem_cons_self
      · exact List.mem_cons_of_mem _ (dropOldest_subset tag rest e h)

/-- Beats mapped with their numbers are as many as before. -/
theorem mapBeats_length (f : Nat → Beat → Beat) : ∀ (i : Nat) (l : List Beat), (mapBeats f i l).length = l.length
  | _, [] => rfl
  | i, _ :: l => congrArg (· + 1) (mapBeats_length f (i + 1) l)

/-- A mirrored response has as many beats as it had. -/
theorem mirrorBeats_length (data : List Beat) : (mirrorBeats data).length = data.length := by
  simp [mirrorBeats]

end Sys2Proof.Machine
end

