-- ==== Sys2Proof/Laws/Words.lean ====
section
/-! SUPPORT. The fields of command words read back from where they were put, the lengths of framed commands, and what a command's start leaves alone. -/

namespace Sys2Proof

/-! ### Fields of a word -/

/-- A bit of a field put at `lo`. -/
theorem getLsbD_put {n : Nat} (v : BitVec n) (lo i : Nat) :
    (put v lo).getLsbD i = (decide (i < 64) && decide (lo ≤ i) && v.getLsbD (i - lo)) := by
  unfold put
  rw [BitVec.getLsbD_shiftLeft, BitVec.getLsbD_setWidth]
  by_cases h : i < 64
  · have a : i - lo < 64 := by omega
    by_cases k : lo ≤ i
    · have b : ¬ i < lo := by omega
      simp [h, k, a, b]
    · have b : i < lo := by omega
      simp [k, b]
  · simp [h]

/-- A field of a word as a number: the bits from `lo` up. -/
theorem field_eq_ofNat (w : Word) (lo n : Nat) : field w lo n = BitVec.ofNat n (w.toNat / 2 ^ lo) := by
  unfold field
  rw [← Nat.shiftRight_eq_div_pow]
  rfl

/-- One bit of a word as a number. -/
theorem flag_eq_decide (w : Word) (lo : Nat) : flag w lo = decide (w.toNat / 2 ^ lo % 2 = 1) := by
  unfold flag
  rw [BitVec.getLsbD, Nat.testBit_eq_decide_div_mod_eq]

/-- A field reads back from where it was put. -/
theorem field_put {n : Nat} (v : BitVec n) (lo : Nat) (h : lo + n ≤ 64) : field (put v lo) lo n = v := by
  apply BitVec.eq_of_getLsbD_eq
  intro i hi
  unfold field
  rw [BitVec.getLsbD_extractLsb', getLsbD_put]
  have a : lo + i < 64 := by omega
  simp [a, hi]

/-- A field is zero in a word that holds another field apart from it. -/
theorem field_put_apart {n m : Nat} (v : BitVec n) (lo at_ : Nat) (h : lo + n ≤ at_ ∨ at_ + m ≤ lo) :
    field (put v lo) at_ m = 0 := by
  apply BitVec.eq_of_getLsbD_eq
  intro i hi
  unfold field
  rw [BitVec.getLsbD_extractLsb', getLsbD_put]
  rcases h with h | h
  · have : v.getLsbD (at_ + i - lo) = false := BitVec.getLsbD_of_ge _ _ (by omega)
    simp [this]
  · have : ¬ lo ≤ at_ + i := by omega
    simp [this]

/-- A field of a combination is the combination of the fields. -/
theorem field_or (a b : Word) (lo n : Nat) : field (a ||| b) lo n = field a lo n ||| field b lo n := by
  apply BitVec.eq_of_getLsbD_eq
  intro i hi
  unfold field
  simp [hi]

/-- The code of a header whose argument field leaves bits 63..53 zero. -/
theorem headerCode_header (code : BitVec 8) (len : BitVec 3) (args : Word) (h : field args 56 8 = 0) :
    headerCode (header code len args) = code := by
  unfold headerCode header
  rw [field_or, field_or, field_put _ _ (by omega), field_put_apart _ _ _ (by omega), h]
  simp

/-- The declared length of a header whose argument field leaves bits 63..53 zero. -/
theorem headerLength_header (code : BitVec 8) (len : BitVec 3) (args : Word) (h : field args 53 3 = 0) :
    headerLength (header code len args) = len := by
  unfold headerLength header
  rw [field_or, field_or, field_put _ _ (by omega), field_put_apart _ _ _ (by omega), h]
  simp

/-! ### Frames -/

/-- The first word of a framed command is its header. -/
theorem wordAt_frame (len : BitVec 3) (hd : Word) (rest : List Word) : wordAt (frame len hd rest) 0 = hd := rfl

/-- A command framed by 1 to 4 words has that many. -/
theorem frame_length (len : BitVec 3) (hd : Word) (rest : List Word) (h : framedLength len = true) :
    (frame len hd rest).length = len.toNat := by
  unfold framedLength at h
  simp only [Bool.and_eq_true, decide_eq_true_eq] at h
  unfold frame
  simp only [List.length_cons, List.length_take, List.length_append, List.length_nil]
  omega

namespace Machine

/-! ### What a start leaves alone -/

/-- What no command of the catalogue touches: the waiting events, RESET_N, the straps, the link, the counter and the clock. -/
def State.Untouched (s t : State) : Prop :=
  t.pending = s.pending ∧ t.resetLow = s.resetLow ∧ t.strap = s.strap ∧ t.link = s.link ∧ t.free = s.free
    ∧ t.time.ms = s.time.ms ∧ t.time.period = s.time.period ∧ t.time.lost = s.time.lost

/-- Nothing is touched by nothing. -/
theorem State.Untouched.refl (s : State) : s.Untouched s := ⟨rfl, rfl, rfl, rfl, rfl, rfl, rfl, rfl⟩

/-- One operation after another. -/
theorem State.Untouched.trans {s t u : State} (h : s.Untouched t) (k : t.Untouched u) : s.Untouched u :=
  ⟨k.1.trans h.1, k.2.1.trans h.2.1, k.2.2.1.trans h.2.2.1, k.2.2.2.1.trans h.2.2.2.1, k.2.2.2.2.1.trans h.2.2.2.2.1,
    k.2.2.2.2.2.1.trans h.2.2.2.2.2.1, k.2.2.2.2.2.2.1.trans h.2.2.2.2.2.2.1, k.2.2.2.2.2.2.2.trans h.2.2.2.2.2.2.2⟩

/-- An operation whose frame names none of those fields. -/
theorem State.untouched_of_eq {s t u : State} (h : t = u) (k : s.Untouched u) : s.Untouched t := h ▸ k

theorem State.complete_untouched (s : State) (r : Result) : s.Untouched (s.complete r) :=
  State.untouched_of_eq (s.complete_frame r) ⟨rfl, rfl, rfl, rfl, rfl, rfl, rfl, rfl⟩

/-- What a start leaves alone: those, and of the Command Unit all but the operating state. -/
def State.Kept (s t : State) : Prop :=
  t.pending = s.pending ∧ t.resetLow = s.resetLow ∧ t.strap = s.strap ∧ t.link = s.link ∧ t.free = s.free
    ∧ t.time.ms = s.time.ms ∧ t.time.period = s.time.period ∧ t.time.lost = s.time.lost
    ∧ t.command = { s.command with running := t.command.running }

/-- Nothing is lost by nothing. -/
theorem State.Kept.refl (s : State) : s.Kept s := ⟨rfl, rfl, rfl, rfl, rfl, rfl, rfl, rfl, rfl⟩

/-- What a start keeps is untouched. -/
theorem State.Kept.untouched {s t : State} (h : s.Kept t) : s.Untouched t :=
  ⟨h.1, h.2.1, h.2.2.1, h.2.2.2.1, h.2.2.2.2.1, h.2.2.2.2.2.1, h.2.2.2.2.2.2.1, h.2.2.2.2.2.2.2.1⟩

/-- The Command Unit after a start, but for the operating state. -/
theorem State.Kept.command {s t : State} (h : s.Kept t) : t.command = { s.command with running := t.command.running } :=
  h.2.2.2.2.2.2.2.2

/-- One start after another. -/
theorem State.Kept.trans {s t u : State} (h : s.Kept t) (k : t.Kept u) : s.Kept u := by
  have x := h.untouched.trans k.untouched
  exact ⟨x.1, x.2.1, x.2.2.1, x.2.2.2.1, x.2.2.2.2.1, x.2.2.2.2.2.1, x.2.2.2.2.2.2.1, x.2.2.2.2.2.2.2,
    k.command.trans (by rw [h.command])⟩

/-- An operation whose frame names none of those fields. -/
theorem State.kept_of_eq {s t u : State} (h : t = u) (k : s.Kept u) : s.Kept t := h ▸ k

theorem State.raise_kept (s : State) (k : EventKind) : s.Kept (s.raise k) := ⟨rfl, rfl, rfl, rfl, rfl, rfl, rfl, rfl, rfl⟩

theorem State.flip_kept (s : State) : s.Kept s.flip := ⟨rfl, rfl, rfl, rfl, rfl, rfl, rfl, rfl, rfl⟩

theorem State.leaveRun_kept (s : State) : s.Kept s.leaveRun :=
  State.kept_of_eq s.leaveRun_frame ⟨rfl, rfl, rfl, rfl, rfl, rfl, rfl, rfl, rfl⟩

theorem State.truncate_kept (s : State) (n : Nat) : s.Kept (s.truncate n) := by
  have h := s.truncate_frame n
  generalize s.truncate n = t at h ⊢
  exact State.kept_of_eq h ⟨rfl, rfl, rfl, rfl, rfl, rfl, rfl, rfl, rfl⟩

theorem State.setCommandHold_kept (s : State) (v : Fin 8) (b : Bool) : s.Kept (s.setCommandHold v b) := by
  have h := s.setCommandHold_frame v b
  generalize s.setCommandHold v b = t at h ⊢
  exact State.kept_of_eq h ⟨rfl, rfl, rfl, rfl, rfl, rfl, rfl, rfl, rfl⟩

theorem State.lineFrame_kept {s t : State} (h : t = s.lineFrame t) : s.Kept t :=
  State.kept_of_eq h ⟨rfl, rfl, rfl, rfl, rfl, rfl, rfl, rfl, rfl⟩

theorem State.captureFrame_kept {s t : State} (h : t = s.captureFrame t) : s.Kept t :=
  State.kept_of_eq h ⟨rfl, rfl, rfl, rfl, rfl, rfl, rfl, rfl, rfl⟩

theorem State.resetCameras_kept (s : State) : s.Kept s.resetCameras :=
  State.kept_of_eq s.resetCameras_frame ⟨rfl, rfl, rfl, rfl, rfl, rfl, rfl, rfl, rfl⟩

theorem State.resetArbiter_kept (s : State) : s.Kept s.resetArbiter := ⟨rfl, rfl, rfl, rfl, rfl, rfl, rfl, rfl, rfl⟩

theorem State.resetLines_kept (s : State) : s.Kept s.resetLines :=
  State.kept_of_eq s.resetLines_frame ⟨rfl, rfl, rfl, rfl, rfl, rfl, rfl, rfl, rfl⟩

theorem State.resetEvents_kept (s : State) : s.Kept s.resetEvents := ⟨rfl, rfl, rfl, rfl, rfl, rfl, rfl, rfl, rfl⟩

/-- The resets of SOFT_RESET behind that of the cameras. -/
theorem State.resetRest_kept (s : State) : s.Kept
    ((s.withPanes State.reset.panes).resetArbiter.resetOverlay.resetLines.resetAlert.resetEvents) := by
  have h1 : s.Kept (s.withPanes State.reset.panes) := ⟨rfl, rfl, rfl, rfl, rfl, rfl, rfl, rfl, rfl⟩
  have h2 := h1.trans (State.resetArbiter_kept _)
  generalize (s.withPanes State.reset.panes).resetArbiter = t at h2 ⊢
  have h3 : s.Kept t.resetOverlay := h2.trans ⟨rfl, rfl, rfl, rfl, rfl, rfl, rfl, rfl, rfl⟩
  have h4 := h3.trans (State.resetLines_kept _)
  generalize t.resetOverlay.resetLines = u at h4 ⊢
  have h5 : s.Kept u.resetAlert := h4.trans ⟨rfl, rfl, rfl, rfl, rfl, rfl, rfl, rfl, rfl⟩
  exact h5.trans (State.resetEvents_kept _)

theorem State.resetScan_kept (s : State) : s.Kept s.resetScan := ⟨rfl, rfl, rfl, rfl, rfl, rfl, rfl, rfl, rfl⟩

theorem State.startSoftReset_kept (s : State) : s.Kept s.startSoftReset.2 := by
  unfold State.startSoftReset State.done
  have h1 := s.leaveRun_kept
  generalize s.leaveRun = t at h1 ⊢
  have h2 := h1.trans t.resetScan_kept
  generalize t.resetScan = u at h2 ⊢
  have h3 := h2.trans u.resetCameras_kept
  generalize u.resetCameras = w at h3 ⊢
  exact h3.trans w.resetRest_kept

theorem State.startEdit_kept (s : State) (e : Edit) : s.Kept (s.startEdit e).2 :=
  State.kept_of_eq (s.startEdit_frame e) ⟨rfl, rfl, rfl, rfl, rfl, rfl, rfl, rfl, rfl⟩

/-- A start, whatever the command and its result, leaves these alone. -/
theorem State.start_kept (s : State) (c : Cmd) : s.Kept (s.start c).2 := by
  have r := State.Kept.refl s
  cases c <;> dsimp only [State.start]
  case run =>
    unfold State.startRun
    split
    · exact r
    · split
      · exact r
      · exact ⟨rfl, rfl, rfl, rfl, rfl, rfl, rfl, rfl, rfl⟩
  case bypass => exact s.leaveRun_kept
  case softReset => exact s.startSoftReset_kept
  case setScan a =>
    unfold State.startSetScan
    split
    · exact r
    · split
      · exact r
      · split
        · exact r
        · split <;> exact ⟨rfl, rfl, rfl, rfl, rfl, rfl, rfl, rfl, rfl⟩
  case setCapture a =>
    unfold State.startSetCapture
    split
    · exact r
    · split
      · exact r
      · split
        · exact r
        · exact State.captureFrame_kept (State.redefine_frame _ _ _)
  case clearCapture c =>
    unfold State.startClearCapture
    split
    · exact r
    · exact State.captureFrame_kept (State.redefine_frame _ _ _)
  case setPane a => unfold State.startSetPane; split <;> exact ⟨rfl, rfl, rfl, rfl, rfl, rfl, rfl, rfl, rfl⟩
  case clearPane p => unfold State.startClearPane; split <;> exact ⟨rfl, rfl, rfl, rfl, rfl, rfl, rfl, rfl, rfl⟩
  case setView a =>
    unfold State.startSetView
    split
    · exact r
    · split
      · exact r
      · split
        · exact r
        · split <;> exact ⟨rfl, rfl, rfl, rfl, rfl, rfl, rfl, rfl, rfl⟩
  case clearView v =>
    unfold State.startClearView
    split
    · exact r
    · split <;> exact ⟨rfl, rfl, rfl, rfl, rfl, rfl, rfl, rfl, rfl⟩
  case requestView v =>
    unfold State.startRequestView
    split
    · exact r
    · split
      · exact s.setCommandHold_kept _ _
      · exact r
  case releaseView v =>
    unfold State.startReleaseView
    split
    · exact r
    · exact s.setCommandHold_kept _ _
  case truncateStack d =>
    unfold State.startTruncateStack
    split
    · dsimp only [State.done]
      exact s.truncate_kept d.toNat
    · exact r
  case addSpan a => unfold State.startAddSpan; split; exact r; exact s.startEdit_kept _
  case removeSpan a => unfold State.startRemoveSpan; split; exact r; exact s.startEdit_kept _
  case clearBank => exact s.startEdit_kept _
  case copyBank => exact s.startEdit_kept _
  case flipBank =>
    unfold State.startFlipBank State.startFlip
    split
    · exact ⟨rfl, rfl, rfl, rfl, rfl, rfl, rfl, rfl, rfl⟩
    · exact s.flip_kept
  case setHatch c => exact ⟨rfl, rfl, rfl, rfl, rfl, rfl, rfl, rfl, rfl⟩
  case setLine a =>
    unfold State.startSetLine
    split
    · exact r
    · exact State.lineFrame_kept (State.configureLine_frame _ _ _)
  case setRate source threshold =>
    unfold State.startSetRate
    split
    · exact r
    · exact State.lineFrame_kept (State.configureRate_frame _ _ _)
  case setEvents e u => exact ⟨rfl, rfl, rfl, rfl, rfl, rfl, rfl, rfl, rfl⟩
  case ackEvents m =>
    refine State.kept_of_eq (State.acknowledge_frame s m) ⟨rfl, rfl, rfl, rfl, rfl, ?_, ?_, ?_, rfl⟩ <;>
      (dsimp only; rw [State.acknowledge_time])
  case silenceAlert => exact ⟨rfl, rfl, rfl, rfl, rfl, rfl, rfl, rfl, rfl⟩

theorem State.startWords_kept (s : State) (ws : List Word) : s.Kept (s.startWords ws).2 := by
  unfold State.startWords
  split
  · exact State.Kept.refl s
  · split
    · exact s.start_kept _
    · exact State.Kept.refl s
/-- The chain of starts and completions leaves these alone. -/
theorem State.runChain_untouched : ∀ (n : Nat) (s : State), s.Untouched (s.runChain n)
  | 0, s => State.Untouched.refl s
  | n + 1, s => by
    unfold State.runChain
    split
    · exact State.Untouched.refl s
    · next q _ _ =>
      have h := (s.startWords_kept q.words).untouched
      split
      · next t e => rw [e] at h; exact h
      · next r t e =>
        rw [e] at h
        exact h.trans ((t.complete_untouched r).trans (State.runChain_untouched n _))

/-- A complete command, lost, queued or started, leaves these alone. -/
theorem State.commandComplete_untouched (s : State) (ws : List Word) : s.Untouched (s.commandComplete ws) := by
  unfold State.commandComplete
  split
  · exact State.Untouched.refl s
  · split
    · exact State.Untouched.trans (t := s.enqueue ws) (State.Untouched.refl s) (State.runChain_untouched _ _)
    · exact State.Untouched.refl s

end Machine

end Sys2Proof
end

