-- ==== Sys2Proof/Laws/Terms.lean ====
section
/-! SUPPORT. The model's functions in the terms the statements use: retirement, triggers, the view stack after a pop, a release and a request, bursts, the expiries owed, the chain of commands. -/

namespace Sys2Proof.Machine

/-- The views of the statements reach the arbiter as the model's do (R111). -/
theorem State.heard_eq_handOn (s u : State) : s.heard u = u.handOn s.conditions := rfl

/-- A command row of a free Command Unit reaches the part (R10). -/
theorem State.Ready.not_blocked {s : State} (h : s.Ready) : s.commandBlocked = false := by
  obtain ⟨hl, _, hp⟩ := h
  simp [State.commandBlocked, hl, hp]

/-- R55: the retirement condition in the terms of the statements. -/
theorem State.retires_iff (s : State) (k : Fin 2) :
    s.retires k = true ↔ (s.scan.slots[k]).isSome = true ∧ s.mayRetire s.link.table k := by
  have other : ∀ a b : Fin 2, a = otherSlot b ↔ a ≠ b := by decide
  have count : s.refCount k = 0 ↔ ∀ e ∈ s.link.table, e.context ≠ some k := by
    simp [State.refCount, List.countP_eq_zero]
  have newer : s.newerLive k = true ↔ s.scan.lastOpened ≠ k ∧ (s.scan.slots[s.scan.lastOpened]).isSome = true := by
    unfold State.newerLive
    rw [← other]
    constructor
    · intro h
      simp only [Bool.and_eq_true, decide_eq_true_eq] at h
      exact ⟨h.1, by simpa [h.1] using h.2⟩
    · rintro ⟨h, g⟩
      simp only [Bool.and_eq_true, decide_eq_true_eq]
      exact ⟨h, by simpa [h] using g⟩
  simp only [State.retires, State.mayRetire, Bool.and_eq_true, Bool.or_eq_true, decide_eq_true_eq, count, newer,
    Bool.not_eq_true', and_assoc]

/-- R130: the trigger of a view in the terms of the statements. -/
theorem State.matchesNow_iff (s : State) (v : Fin 8) : s.matchesNow v = true ↔ s.viewMatches v := by
  have bits : ∀ k a m : BitVec 9, (k ^^^ a) &&& m = 0 ↔ ∀ i : Fin 9, m.getLsbD i.val = true → k.getLsbD i.val = a.getLsbD i.val := by
    intro k a m
    constructor
    · intro h i hm
      have := congrArg (fun x => x.getLsbD i.val) h
      rw [BitVec.getLsbD_and, BitVec.getLsbD_xor, hm] at this
      cases hk : k.getLsbD i.val <;> cases ha : a.getLsbD i.val <;> simp_all
    · intro h
      apply BitVec.eq_of_getLsbD_eq
      intro i hi
      have := h ⟨i, hi⟩
      cases hm : m.getLsbD i <;> simp_all
  unfold State.matchesNow State.viewMatches
  cases hd : s.views[v].definition with
  | none => simp
  | some d =>
    simp only [ViewDef.hits, Bool.and_eq_true, decide_eq_true_eq, bits, Option.some.injEq, exists_eq_left', ne_eq]

/-- A view joins a stack when it is wanted, off the stack and above the top (R142). -/
theorem foldl_admitOne_stack : ∀ (l : List (Fin 8)) (s : State), l.Pairwise (· < ·) → (∀ w ∈ l, w ≠ 0) →
    (l.foldl State.admitOne s).stack = (l.reverse.filter fun w => s.views[w].wanted
        && s.stack.all (fun e => e.view ≠ w) && s.topView < w).map (fun w => { view := w, released := false, entered := s.time.ms })
      ++ s.stack
  | [], _, _, _ => rfl
  | a :: l, s, hp, h0 => by
    have hp' := List.pairwise_cons.mp hp
    have h0' : ∀ w ∈ l, w ≠ 0 := fun w hw => h0 w (List.mem_cons_of_mem _ hw)
    have pend : ∀ w : Fin 8, w ≠ 0 → s.isPending w = (s.views[w].wanted && s.stack.all (fun e => e.view ≠ w)) := by
      intro w hw
      have : (fun e : StackEntry => e.view == w) = fun e => decide (e.view = w) := by funext e; rfl
      simp [State.isPending, State.onStack, hw, List.all_eq_not_any_not, this]
    rw [List.foldl_cons, foldl_admitOne_stack l _ hp'.2 h0', List.reverse_cons, List.filter_append, List.map_append,
      List.append_assoc]
    by_cases ha : (s.isPending a && s.topView < a) = true
    · have hs : s.admitOne a = s.push a := by simp [State.admitOne, ha]
      rw [hs]
      have ha' := ha
      rw [pend a (h0 a List.mem_cons_self)] at ha'
      have fa : ([a].filter fun w => (s.views[w].wanted && s.stack.all fun e => decide (e.view ≠ w)) && decide (s.topView < w))
          = [a] := by rw [List.filter_cons, if_pos ha']; rfl
      rw [fa]
      have hf : ∀ w ∈ l.reverse, ((s.push a).views[w].wanted && (s.push a).stack.all (fun e => e.view ≠ w) && (s.push a).topView < w)
          = (s.views[w].wanted && s.stack.all (fun e => e.view ≠ w) && s.topView < w) := by
        intro w hw
        have haw : a < w := hp'.1 w (List.mem_reverse.mp hw)
        have hta : s.topView < a := of_decide_eq_true (Bool.and_eq_true_iff.mp ha).2
        have hne : a ≠ w := Fin.ne_of_lt haw
        simp [State.push, State.withStack, State.topView, haw, hne]
        intro _ _
        exact decide_eq_true (Nat.lt_trans hta haw)
      rw [List.filter_congr hf]
      rfl
    · have hs : s.admitOne a = s := by simp only [State.admitOne, if_neg ha]
      rw [hs]
      have ha' := ha
      rw [pend a (h0 a List.mem_cons_self)] at ha'
      have fa : ([a].filter fun w => (s.views[w].wanted && s.stack.all fun e => decide (e.view ≠ w)) && decide (s.topView < w))
          = [] := by rw [List.filter_cons, if_neg ha']; rfl
      rw [fa]
      rfl

/-- R141: the cascade drops the marked entries at the top. -/
theorem cascade_eq_dropWhile : ∀ l : List StackEntry, cascade l = l.dropWhile (·.released)
  | [] => rfl
  | e :: rest => by
    unfold cascade
    cases h : e.released with
    | true => rw [if_pos rfl, cascade_eq_dropWhile rest, List.dropWhile_cons_of_pos h]
    | false => simp [h]

/-- R141, R142: the stack a pop leaves, in the terms of the statements. -/
theorem State.popTop_stack (s : State) : s.popTop.stack = stackAfterPop s.time.ms (fun w => s.views[w].wanted) s.stack := by
  unfold State.popTop State.admitPending
  rw [foldl_admitOne_stack upViews _ (by decide) (by decide), cascade_eq_dropWhile]
  rfl

/-- R140: the stack a release leaves, in the terms of the statements. -/
theorem State.releaseView_stack (s : State) (v : Fin 8) (hv : v ≠ 0) :
    (s.releaseView v).stack = stackAfterRelease s.time.ms (fun w => s.views[w].wanted) s.stack v := by
  unfold State.releaseView stackAfterRelease
  have top : s.topView = v ↔ s.stack.head?.map (·.view) = some v := by
    unfold State.topView
    cases s.stack.head? with
    | none => simp [Ne.symm hv]
    | some e => simp
  by_cases hs : s.onStack v = true
  · rw [if_pos hs]
    by_cases ht : s.topView = v
    · rw [if_pos ht, if_pos (top.mp ht), State.popTop_stack]
    · rw [if_neg ht, if_neg (fun h => ht (top.mpr h))]
      rfl
  · rw [if_neg hs]
    have absent : ∀ e ∈ s.stack, e.view ≠ v := by simpa [State.onStack] using hs
    rw [if_neg]
    · conv => lhs; rw [← List.map_id s.stack]
      exact List.map_congr_left fun e he => (if_neg (absent e he)).symm
    · intro h
      cases hst : s.stack with
      | nil => simp [hst] at h
      | cons e rest => exact absent e (by simp [hst]) (by simpa [hst] using h)

/-- R138, R139: the stack a request leaves, in the terms of the statements. -/
theorem State.requestView_stack (s : State) (v : Fin 8) :
    (s.requestView v).stack = stackAfterRequest s.time.ms s.stack v := by
  unfold State.requestView stackAfterRequest State.onStack State.topView
  have : (s.stack.any fun e => e.view == v) = s.stack.any fun e => decide (e.view = v) := by congr
  rw [this]
  split
  · rfl
  · split <;> rfl

/-! ### Bursts (R1, R4, R7, R8) -/

/-- The beats of a burst after the first are a burst at the next beat address, which passes 0xFFFF_FFF8 as the burst does (R1). -/
theorem beatAddrOf_succ (a : BeatAddr) (j : Nat) : beatAddrOf (a + 1) j = beatAddrOf a (j + 1) := by
  unfold beatAddrOf byteAddr
  have h : (a + 1).toNat = (a.toNat + 1) % 2 ^ 29 := by simp
  rw [h]
  omega

/-- The offers of a burst are the offer of its first beat and those of the others (R7, R8). -/
theorem State.offers_cons (s : State) (w : WriteReq) (b : WriteBeat) (more : List WriteBeat) (h : w.data = b :: more) :
    s.offers w = (s.offerOf w.tag (byteAddr w.addr), b) :: s.offers { w with addr := w.addr + 1, data := more } := by
  have first : beatAddrOf w.addr 0 = byteAddr w.addr := by unfold beatAddrOf byteAddr; omega
  have rest : (beatAddrOf w.addr ∘ Nat.succ) = beatAddrOf (w.addr + 1) := funext fun j => (beatAddrOf_succ w.addr j).symm
  unfold State.offers burst
  rw [h]
  simp only [List.length_cons, List.range_succ_eq_map, List.map_cons, List.map_map, List.zip_cons_cons, first, rest]

/-- The class of an address depends on the straps, the scan window and the capture windows alone (R4). -/
theorem State.classify_congr {s t : State} (a : Nat) (strap : t.strap = s.strap) (scan : t.scanExtent = s.scanExtent)
    (cameras : ∀ c, t.captureExtent c = s.captureExtent c) : t.classify a = s.classify a := by
  have base : t.pageBase = s.pageBase := by unfold State.pageBase; rw [strap]
  have captures : t.captureExtent = s.captureExtent := funext cameras
  unfold State.classify State.slotExtent State.statusExtent State.pageExtent
  rw [base, scan, captures]

/-- A beat keeps the definition of its camera (R30 to R34). -/
theorem CaptureRec.beat_geo (r : CaptureRec) (k : Nat) (kind : BeatKind) (now : Millis) : (r.beat k kind now).record.geo = r.geo := by
  have damage : ∀ cause, (r.damage k cause).record.geo = r.geo := fun cause => by unfold CaptureRec.damage; split <;> rfl
  cases kind
  · show (r.frameFirst k).record.geo = _
    unfold CaptureRec.frameFirst
    dsimp only
    split
    · rfl
    · split <;> rfl
  · show (r.ordinary k).record.geo = _
    unfold CaptureRec.ordinary
    split
    · rfl
    all_goals exact damage _
  · show (r.final k now).record.geo = _
    unfold CaptureRec.final
    split
    · split <;> rfl
    all_goals exact damage _
  · exact damage _
  · rfl

/-- The newest and the camera state decided anew keep the definition (R36, R37). -/
theorem CaptureRec.refresh_geo (old r : CaptureRec) (k : Nat) (now : Millis) : (CaptureRec.refresh old r k now).geo = r.geo := by
  unfold CaptureRec.refresh
  dsimp only
  split
  · rfl
  · split
    · rfl
    · unfold CaptureRec.decide
      split
      · rfl
      · split <;> rfl

/-- A capture beat replaces the record of its camera by one of the same definition (R30 to R37). -/
theorem State.captureBeat_cameras (s : State) (c : Fin 6) (k : Nat) (kind : BeatKind) (r : CaptureRec)
    (h : s.cameras[c].record = some r) : ∃ r', r'.geo = r.geo ∧
      (s.captureBeat c k kind).cameras = s.cameras.set c { s.cameras[c] with record := some r' } := by
  unfold State.captureBeat
  rw [h]
  dsimp only
  refine ⟨CaptureRec.refresh r { (r.beat k kind s.time.ms).record with
    lastCorruption := if (r.beat k kind s.time.ms).corruption.isSome then (r.beat k kind s.time.ms).corruption
      else (r.beat k kind s.time.ms).record.lastCorruption } k s.time.ms, ?_, ?_⟩
  · rw [CaptureRec.refresh_geo]; exact r.beat_geo k kind s.time.ms
  · have check : ∀ t : State, (t.lockedBufferCheck c k).cameras = t.cameras := fun t => by
      rw [State.lockedBufferCheck_frame]
    have up : ∀ new, (s.updateRecord c r new).cameras = s.cameras.set c { s.cameras[c] with record := some new } := fun new => by
      rw [State.updateRecord_frame]
    have corrupt : ∀ (b : Bool) (t : State), (if b then t.raise .corruptFrame else t).cameras = t.cameras := fun b t => by
      cases b <;> rfl
    split
    · rw [check, corrupt, up]
    · rw [corrupt, up]

/-- A capture beat changes the class of no address (R4). -/
theorem State.captureBeat_classify (s : State) (c : Fin 6) (k : Nat) (kind : BeatKind) (a : Nat) :
    (s.captureBeat c k kind).classify a = s.classify a := by
  have frame := s.captureBeat_frame c k kind
  refine State.classify_congr a (by rw [frame]; rfl) (by rw [frame]; rfl) fun d => ?_
  cases h : s.cameras[c].record with
  | none => unfold State.captureBeat; rw [h]
  | some r =>
    obtain ⟨r', geo, cams⟩ := s.captureBeat_cameras c k kind r h
    unfold State.captureExtent
    rw [cams]
    by_cases e : c = d
    · subst e
      have h' : s.cameras[c.val].record = some r := h
      simp [h', geo]
    · have : c.val ≠ d.val := fun x => e (Fin.ext x)
      simp [this]
/-! ### The expiries owed (R21; logs 3 and 4) -/

/-- The event of a timer's expiry expires it when it is due. -/
theorem exec_expiry (i : TimerId) (s : State) : exec i.event s = .next (s.expireIfDue i) := by cases i <;> rfl

/-- The timer chosen is one of the list. -/
theorem State.chooseDue_mem (s : State) (i : TimerId) (ts : List TimerId) (h : 0 < ts.length) : s.chooseDue i ts ∈ ts := by
  unfold State.chooseDue
  have := Nat.mod_lt (Config.expiryChoice s.free) h
  rw [List.getD_eq_getElem?_getD, List.getElem?_eq_getElem this]
  exact List.getElem_mem this

/-- The timers of a list expire one after another in some order of the list. -/
theorem State.expireAll_expiresTo : ∀ (n : Nat) (ts : List TimerId) (s : State), ts.length ≤ n →
    ∃ l, l.Perm ts ∧ s.ExpiresTo l (s.expireAll n ts)
  | 0, ts, s, h => by
    have : ts = [] := List.length_eq_zero_iff.mp (Nat.le_zero.mp h)
    subst this
    exact ⟨[], List.Perm.refl _, rfl⟩
  | n + 1, [], s, _ => ⟨[], List.Perm.refl _, rfl⟩
  | n + 1, [i], s, _ => ⟨[i], List.Perm.refl _, exec_expiry i s⟩
  | n + 1, i :: j :: rest, s, h => by
    have mem := s.chooseDue_mem i (i :: j :: rest) (Nat.succ_pos _)
    have len := List.length_erase_of_mem mem
    obtain ⟨l, perm, run⟩ := State.expireAll_expiresTo n ((i :: j :: rest).erase (s.chooseDue i (i :: j :: rest)))
      (({ s with free := s.free + 1 } : State).expireIfDue (s.chooseDue i (i :: j :: rest))) (by simp at len h; omega)
    refine ⟨s.chooseDue i (i :: j :: rest) :: l, (perm.cons _).trans (List.perm_cons_erase mem).symm, ?_⟩
    cases l with
    | nil =>
      have := perm.length_eq
      simp at len this
      omega
    | cons k l => exact ⟨_, exec_expiry _ _, run⟩

/-- The expiries owed are those of the timers due, in some order. -/
theorem State.settleTimers_expiresTo (s : State) : ∃ l, l.Perm s.dueTimers ∧ s.ExpiresTo l s.settleTimers :=
  State.expireAll_expiresTo _ _ s (Nat.le_refl _)

/-! ### The chain of commands -/

/-- A completion in the terms of the statements: the head leaves the queue and its record is made (R156, R159). -/
theorem State.complete_cons (s : State) (q : Queued) (rest : List Queued) (r : Result) (h : s.command.queue = q :: rest) :
    s.complete r = (s.withCommand { s.command with queue := rest }).recorded q r := by
  unfold State.complete State.recorded
  rw [h]
  rfl

/-- What is made of the commands given does not depend on the queue before. -/
theorem State.thenRun_queue (s : State) (old rest : List Queued) :
    (s.withCommand { s.command with queue := old }).thenRun rest = s.thenRun rest := by
  cases rest <;> rfl

/-- A completion record and the queue are apart. -/
theorem State.recorded_queue (s : State) (q : Queued) (r : Result) (old : List Queued) :
    (s.withCommand { s.command with queue := old }).recorded q r
      = (s.recorded q r).withCommand { (s.recorded q r).command with queue := old } := by
  unfold State.recorded
  dsimp only
  split <;> rfl

/-- A completion with the queue behind it, in the terms of the statements. -/
theorem State.complete_thenRun (s : State) (q : Queued) (rest : List Queued) (r : Result) (h : s.command.queue = q :: rest) :
    (s.complete r).thenRun rest = (s.recorded q r).thenRun rest := by
  rw [s.complete_cons q rest r h, State.recorded_queue, State.thenRun_queue]

/-- The queue after a completion. -/
theorem State.complete_queue (s : State) (q : Queued) (rest : List Queued) (r : Result) (h : s.command.queue = q :: rest) :
    (s.complete r).command.queue = rest := by
  rw [s.complete_cons q rest r h, State.recorded_queue]
  rfl

/-- The chain of starts and completions is the one of the statements (R156). -/
theorem State.startHead_eq_thenRun (s : State) : s.startHead = s.thenRun s.command.queue := by
  unfold State.startHead
  generalize hq : s.command.queue = l
  induction l generalizing s with
  | nil =>
    unfold State.thenRun
    rw [← hq]
    simp only [hq, List.length_nil, State.runChain]
    rw [← hq]
    rfl
  | cons q rest ih =>
    have hs : s.withCommand { s.command with queue := q :: rest } = s := by rw [← hq]; rfl
    rw [List.length_cons, State.runChain, State.thenRun, hs]
    split
    · next h => rw [hq] at h; cases h
    · next p tail h =>
      rw [hq] at h
      cases h
      cases e : s.startWords q.words with
      | mk x t =>
        cases x with
        | none => rfl
        | some r =>
          have k := (s.startWords_kept q.words).command
          rw [e] at k
          have tq : t.command.queue = q :: rest := by
            show t.command.queue = _
            rw [show t.command = _ from k]
            exact hq
          show (t.complete r).runChain rest.length = (t.recorded q r).thenRun rest
          rw [ih _ (t.complete_queue q rest r tq), t.complete_thenRun q rest r tq]

/-- A completion with the commands behind it, in the terms of the statements (R156, R159). -/
theorem State.completeAndGo_cons (s : State) (q : Queued) (rest : List Queued) (r : Result) (h : s.command.queue = q :: rest) :
    s.completeAndGo r = (s.recorded q r).thenRun rest := by
  unfold State.completeAndGo
  rw [State.startHead_eq_thenRun, s.complete_queue q rest r h, s.complete_thenRun q rest r h]

/-- A complete command in the terms of the statements (R154 to R156). -/
theorem State.commandComplete_eq_handedOver (s : State) (ws : List Word) : s.commandComplete ws = s.handedOver ws := by
  unfold State.commandComplete State.handedOver
  have size : Config.queueSize = 64 := rfl
  rw [size]
  split
  · rfl
  · by_cases h : s.command.queue = []
    · rw [if_pos h, if_pos (by rw [h]; rfl), State.startHead_eq_thenRun]
      have : (s.enqueue ws).command.queue = [{ seq := s.command.seq + 1, words := ws }] := by
        simp [State.enqueue, State.withCommand, h]
      rw [this]
      rfl
    · rw [if_neg h, if_neg (by simpa using h)]
      rfl

end Sys2Proof.Machine
end

