-- ==== Sys2Proof/Tests/Slice0.lean ====
section
/-! SUPPORT. The model's own tests: ill-formed events refused, the worked examples of the spec, one step for each row, and for each statement with hypotheses a state and operands that meet them. -/

namespace Sys2Proof.Tests

open Sys2Proof.Machine

/-! ### States -/

/-- The state after one event. -/
def after (i : Instr) (s : State) : State :=
  match exec i s with
  | .next t => t
  | .fault _ => s
  | .refused _ => s

/-- Right after reset. -/
def ready : State := State.reset

/-- The scan window of the worked address examples (4.6). -/
def scanEx : ScanDef := { tag := 2, base := 0x20000000, stride := 7680, width := 1920, height := 720, limit := 40 }

/-- A camera of 1280 by 720 with a ring of two buffers of 4 MiB. -/
def cameraEx (owner : Tag) (base : Nat) : CaptureDef :=
  { owner := owner, base := base, ring := 2, width := 1280, height := 720, stride := 5120, spacing := 0x400000, limit := 100 }

/-- C1: FRESH, buffer 0 COMPLETE at 10 ms, buffer 1 FILLING. -/
def c1 : CaptureRec :=
  { geo := cameraEx 1 0x30100000, buffers := [.complete 1 10, .filling 2 5], nextSeq := 3, newest := some 0, state := .fresh,
    lateness := some 110, lastCorruption := none }

/-- C3: LATE, buffer 0 COMPLETE, buffer 1 EMPTY. -/
def c3 : CaptureRec :=
  { geo := cameraEx 3 0x36000000, buffers := [.complete 1 0, .empty], nextSeq := 2, newest := some 0, state := .late,
    lateness := none, lastCorruption := none }

/-- P0 of the worked examples (4.6). -/
def p0 : PaneGeo := { left := 32, top := 0, width := 640, height := 360, srcX := 0, srcY := 0, mirror := false }

/-- P1 of the worked examples (4.6). -/
def p1 : PaneGeo := { left := 1280, top := 360, width := 640, height := 360, srcX := 320, srcY := 200, mirror := true }

/-- P0's entry: LIVE, locked on C1. -/
def e0 : PaneEntry :=
  { pane := 0, geo := p0, judgement := .live, torn := false, mismatch := false,
    lock := some { camera := 1, generation := 1, buffer := 0, base := 0x30100000, stride := 5120, current := true } }

/-- P1's entry: STALE, locked on C3. -/
def e1 : PaneEntry :=
  { pane := 1, geo := p1, judgement := .stale, torn := false, mismatch := false,
    lock := some { camera := 3, generation := 1, buffer := 0, base := 0x36000000, stride := 5120, current := true } }

/-- The context of the worked examples (4.6, 5.7). -/
def ctx : Context :=
  { opened := true, frame := 1, start := 20, base := 0x20000000, stride := 7680, width := 1920, height := 720, view := 3,
    mask := 5, bank := .b, hatch := 0xFFB000, panes := [e0, e1] }

/-- The spans of bank B of the worked composition (5.7). -/
def spansEx : List Span :=
  [{ layer := 0, line := 404, x0 := 1286, x1 := 1290, colour := 0x00FF00, mode := .solid },
   { layer := 1, line := 404, x0 := 1288, x1 := 1295, colour := 0xFF0000, mode := .solid },
   { layer := 2, line := 404, x0 := 1290, x1 := 1293, colour := 0x000000, mode := .shade },
   { layer := 2, line := 404, x0 := 1295, x1 := 1300, colour := 0x0000FF, mode := .mix }]

/-- V3 of the worked examples. -/
def v3 : ViewDef := { panes := [0, 1], layers := 5, mask := 0, values := 0, linger := 0, chime := false }

/-- A view with a trigger on K0 and a linger of 300 ms. -/
def v5 : ViewDef := { panes := [], layers := 1, mask := 1, values := 1, linger := 3, chime := true }

/-- The 4-beat scan read of the worked composition (5.7), outstanding. -/
def entryEx : Entry :=
  { tag := 2, addr := linkAddr 0x202F6C20, beats := 3, cls := .scan, context := some 0, redirect := some ⟨1, true⟩ }

/-- The part in RUN with the context of the worked examples. -/
def busy : State :=
  { State.reset with
    time := { ms := 25, period := 7, lost := false, wasLost := true },
    link := { State.reset.link with table := [entryEx] },
    cameras := #v[⟨0, none⟩, ⟨1, some c1⟩, ⟨0, none⟩, ⟨1, some c3⟩, ⟨0, none⟩, ⟨0, none⟩],
    scan := { definition := some scanEx, slots := #v[some ctx, none], lastOpened := 0, frame := 1, lastShown := some 3,
              stallTimer := some 60, scanStall := false, staleShown := true },
    panes := (State.reset.panes.set 0 (some ⟨1, p0⟩)).set 1 (some ⟨3, p1⟩),
    overlay := { State.reset.overlay with bankB := spansEx, active := .b },
    views := (State.reset.views.set 3 { definition := some v3, inMatch := false, trigger := .absent, command := true }).set 5
      { definition := some v5, inMatch := false, trigger := .absent, command := false },
    stack := [⟨3, false, 5⟩, ⟨0, false, 0⟩],
    command := { State.reset.command with running := true, seq := 9, lastSeq := 9, lastResult := some .ok },
    events := State.reset.events.set 0 { pending := true, count := 1, enabled := true, urgent := true } }

/-- The same part when another millisecond has come. -/
def at_ (s : State) (ms : Millis) : State := s.withTime { s.time with ms := ms }

/-- A command that waits or runs at the head of the queue. -/
def head : Queued := { seq := 10, words := encodeCommand 1 .flipBank }

/-- A part whose head of the queue is in progress, with an overlay changed by `f`. -/
def working (s : State) (f : Overlay → Overlay) : State :=
  (s.withOverlay (f s.overlay)).withCommand { s.command with seq := 10, queue := [head] }

/-- A flip that waits. -/
def waitingFlip : State := working busy fun o => { o with flipWaiting := true }

/-- An edit that waits for bank B. -/
def waitingEdit : State := working busy fun o => { o with engine := .waiting .clear .b }

/-- Low on RESET_N. -/
def low : State := after .resetAssert busy

/-- The clock lost. -/
def clockless : State := busy.withTime { busy.time with lost := true }

/-- A write of one whole beat. -/
def writeOne (tag : Tag) (a : Nat) (x : Beat) : WriteReq := { tag := tag, addr := linkAddr a, data := [⟨x, 0xFF⟩] }

/-- A read of 16 beats by tag 2. -/
def readAt (a : Nat) : ReadReq := { tag := 2, addr := linkAddr a, beats := 15 }

/-! ### Ill-formed events -/

theorem test_wf_burst_of_no_beat : (Instr.writeRequest false (some ⟨0, 0, []⟩)).wf = false := by decide
theorem test_wf_burst_of_17_beats : (Instr.writeRequest false (some ⟨0, 0, List.replicate 17 ⟨0, 0xFF⟩⟩)).wf = false := by decide
theorem test_wf_burst_of_16_beats : (Instr.writeRequest false (some ⟨0, 0, List.replicate 16 ⟨0, 0xFF⟩⟩)).wf = true := by decide
theorem test_wf_response_of_32_beats : (Instr.readResponse (some ⟨0, false, List.replicate 32 0⟩)).wf = false := by decide
theorem test_wf_delivery_of_32_beats : (Instr.responseDelivery 32).wf = false := by decide
theorem test_wf_clock_loss_of_1000_edges : (Instr.clockLoss 1000).wf = false := by decide
theorem test_wf_linger_of_view_0 : (Instr.lingerTimerExpiry 0).wf = false := by decide
theorem test_wf_command_of_no_word : (Instr.run 0).wf = false := by decide
theorem test_wf_command_of_5_words : (Instr.setHatch 5 0).wf = false := by decide
theorem test_wf_unknown_code_of_catalogue : (Instr.unknownCodeCommand 1 0x44 0).wf = false := by decide
theorem test_wf_unknown_code : (Instr.unknownCodeCommand 1 0x99 0).wf = true := by decide

/-! ### Words (section 10.5) -/

/-- The SET_PANE of section 10.5. -/
def paneEx : PaneArgs :=
  { pane := 0, camera := 1, mirror := false, left := 32, top := 0, width := 640, height := 360, srcX := 0, srcY := 0 }

theorem test_set_pane_words_decode : decodeCommand [0x2040000000200100, 0x0000000001680280] = some (.setPane paneEx) := by decide
theorem test_set_pane_words_encode : encodeCommand 2 (.setPane paneEx) = [0x2040000000200100, 0x0000000001680280] := by decide
theorem test_code_not_in_catalogue_decodes_to_none : decodeCommand [0x9920000000000000] = none := by decide

/-- The context of the decoded status word of section 10.5. -/
def judged : State := ready.setSlot 1 (some { ctx with
  panes := [{ e0 with pane := 4, judgement := .stale,
                      lock := some { camera := 4, generation := 1, buffer := 0, base := 0, stride := 0, current := true } },
            darkEntry 5 p1 true] })

theorem test_judgement_word : judged.statusWord 0x2B0 = 0x00000000016B6049 := by decide
theorem test_identity_word : ready.statusWord 0x200 = 0x0000000000020640 := by decide
theorem test_unlisted_offset_reads_0 : busy.statusWord 0x350 = 0 := by decide

/-! ### The worked address examples (4.6) and the worked composition (5.7) -/

/-- Where a read is forwarded, in the state of the examples. -/
def forwardedTo (r : ReadReq) : Option Request := (after (.readRequest false (some r)) busy).link.memOut

theorem test_example_1_plain_pane : forwardedTo (readAt 0x200BBC80) = some (.read (readAt 0x3017D400)) := by decide
theorem test_example_2_mirrored_pane : forwardedTo (readAt 0x202EF400) = some (.read (readAt 0x3612CE80)) := by decide
theorem test_example_2_last_burst : forwardedTo (readAt 0x202EFD80) = some (.read (readAt 0x3612C500)) := by decide

/-- Occurrences of SPLIT_BURST at a read. -/
def splits (r : ReadReq) : Nat := (after (.readRequest false (some r)) busy).events[(5 : Fin 14)].count

theorem test_example_3_leaves_its_pane :
    splits (readAt 0x200BC240) = 1 ∧ forwardedTo (readAt 0x200BC240) = some (.read (readAt 0x200BC240)) := by decide
theorem test_example_4_crosses_a_line : splits (readAt 0x202EFDC0) = 1 ∧ splits (readAt 0x200B99C0) = 0 := by decide

theorem test_composition_forwarded : forwardedTo { tag := 2, addr := linkAddr 0x202F6C20, beats := 3 }
    = some (.read { tag := 2, addr := linkAddr 0x36131EC0, beats := 3 }) := by decide

/-- The response of the worked composition, as memory returns it. -/
def responseEx : ReadResp :=
  { tag := 2, error := false, data := [0x0040404000202020, 0x0080808000606060, 0x00C0C0C000A0A0A0, 0x11FFFFFF00E0E0E0] }

/-- The response of the worked composition, taken. -/
def delivering : State := after (.readResponse (some responseEx)) busy

theorem test_composition_delivered : (after (.responseDelivery 4) delivering).link.sysOut
    = some { tag := 2, isWrite := false, error := false, count := 4, first := 0, final := true,
             beats := [0x0000FF001100FF00, 0x0050505000007F00, 0x00977018009F7820, 0x00876047009F7820] } := by decide

/-! ### One step of each row -/

theorem test_step_takes_the_front : step (ready.withPending [.millisecondTick, .setHatch 1 5])
    = .next (after .millisecondTick (ready.withPending [.setHatch 1 5])) := by rfl
theorem test_step_idles : step ready = .next ready := by rfl

theorem test_write_counts_a_beat :
    ((after (.writeRequest false (some (writeOne 1 0x30500008 0))) busy).cameras[(1 : Fin 6)].record.map (·.buffers))
      = some [.complete 1 10, .filling 2 6] := by decide
theorem test_write_held_waits : (after (.writeRequest true (some (writeOne 1 0x30500008 0))) busy).link.memOut = none := by decide
theorem test_write_of_a_command_completes_it :
    (after (.writeRequest false (some (writeOne 1 0x0FFFF000 0x4520000000123456))) ready).overlay.hatch = 0x123456 := by decide
theorem test_read_enters_the_table :
    (after (.readRequest false (some (readAt 0x40000000))) busy).link.table.length = 2 := by decide
theorem test_frame_start_opens_slot_1 :
    ((after (.readRequest false (some (readAt 0x20000000))) busy).scan.slots[(1 : Fin 2)].map (·.frame)) = some 2 := by decide
theorem test_read_response_is_matched :
    (delivering.link.delivering.map fun d => (d.entry, d.staged)) = some (some entryEx, true) := by decide
theorem test_unmatched_response_is_an_error :
    (after (.readResponse (some ⟨9, false, [1]⟩)) ready).events[(9 : Fin 14)].count = 1 := by decide
theorem test_write_response_is_delivered :
    (after (.responseDelivery 1) (after (.writeResponse (some ⟨4, true, 2⟩)) ready)).link.sysOut
      = some { tag := 4, isWrite := true, error := true, count := 2, first := 0, beats := [], final := true } := by decide
theorem test_delivery_retires_the_entry : (after (.responseDelivery 4) delivering).link.table = [] := by decide
theorem test_delivery_may_stop_between_beats :
    ((after (.responseDelivery 3) delivering).link.delivering.map (·.sent)) = some 3 := by decide
theorem test_reset_assert : low.resetLow = true ∧ low.link.table = [] := by decide
theorem test_reset_release_samples_the_straps : (after (.resetRelease 2) low).pageBase = 0x3FFFF000 := by decide
theorem test_reset_keeps_responses_not_taken :
    (after .resetAssert (busy.withLink { busy.link with memPort := [.read responseEx] })).link.memPort = [.read responseEx] := by decide
theorem test_response_offered_in_reset_is_an_error_later :
    (after (.readResponse none) (after (.resetRelease 0) (after (.readResponse (some responseEx)) low))).events[(9 : Fin 14)].count = 1 := by
  decide
theorem test_command_behind_a_held_request : after (.setHatch 1 5) (after (.readRequest true (some (readAt 0x40000000))) ready)
    = after (.readRequest true (some (readAt 0x40000000))) ready := by rfl
theorem test_tick_advances : (after .millisecondTick busy).time.ms = 26 := by decide
theorem test_tick_without_clock : (after .millisecondTick clockless).time.ms = 25 := by decide
theorem test_clock_loss : (after (.clockLoss 40) busy).time = { ms := 25, period := 40, lost := true, wasLost := true } := by decide
theorem test_clock_return : (after (.clockReturn true) clockless).time
    = { ms := 25, period := 8, lost := false, wasLost := true } := by decide
theorem test_line_change_requests_a_view : ((after (.lineLevelChange 0 ⟨true, .driven⟩) busy).stack.map (·.view)) = [5, 3, 0] := by
  decide
theorem test_run : (after (.run 1) { ready with scan := { ready.scan with definition := some scanEx } }).scan.stallTimer
    = some 40 := by decide
theorem test_bypass : (after (.bypass 1) busy).command.running = false := by decide
theorem test_soft_reset : (after (.softReset 1) busy).overlay = State.reset.overlay := by decide
theorem test_clear_capture : (after (.clearCapture 1 1) busy).cameras[(1 : Fin 6)] = ⟨2, none⟩ := by decide
theorem test_set_pane : (after (.setPane 2 paneEx) ready).panes[(0 : Fin 16)] = some ⟨1, p0⟩ := by decide
theorem test_clear_pane : (after (.clearPane 1 0) busy).panes[(0 : Fin 16)] = none := by decide
theorem test_clear_view : (after (.clearView 1 5) busy).views[(5 : Fin 8)].definition = none := by decide
theorem test_request_view : (after (.requestView 1 5) busy).topView = 5 := by decide
theorem test_release_view : (after (.releaseView 1 3) busy).topView = 0 := by decide
theorem test_truncate_stack : (after (.truncateStack 1 1) busy).stack.length = 1 := by decide
theorem test_clear_bank : (after (.clearBank 1) busy).overlay.engine = .editing .clear .a := by decide
theorem test_copy_bank : (after .editCompletion (after (.copyBank 1) busy)).overlay.bankA = spansEx := by decide
theorem test_remove_span_not_found :
    (after (.removeSpan 1 { layer := 0, line := 404, x0 := 1286 }) busy).command.lastResult = some .notFound := by decide
theorem test_flip_waits : (after (.flipBank 1) busy).overlay.flipWaiting = true := by decide
theorem test_set_hatch : (after (.setHatch 1 0x010203) busy).overlay.hatch = 0x010203 := by decide
theorem test_set_rate : (after (.setRate 1 2 7) busy).rate.timer = some 275 := by decide
theorem test_set_events : (after (.setEvents 1 1 0) busy).intN = true := by decide
theorem test_ack_re_pends_a_level : (after (.ackEvents 1 0x3FFF) busy).events[(0 : Fin 14)].count = 1 := by decide
theorem test_silence : (after (.silenceAlert 1) busy).alert.record = [.staleShown] := by decide
theorem test_unknown_code : (after (.unknownCodeCommand 1 0x99 0) busy).command.lastResult = some .unknown := by decide
theorem test_length : (after (.setHatch 2 0) busy).command.lastResult = some .length := by decide

theorem test_set_scan_refused_in_run : (after (.setScan 3 ⟨2, 0x20000000, 7680, 1920, 720, 40⟩) busy).command.lastResult
    = some .inUse := by decide
theorem test_set_scan : (after (.setScan 3 ⟨2, 0x20000000, 7680, 1920, 720, 40⟩) ready).scan.definition = some scanEx := by decide

/-- The arguments that define C1. -/
def captureArgs : CaptureArgs :=
  { camera := 1, owner := 1, base := 0x30100000, ring := 2, width := 1280, height := 720, stride := 5120, spacing := 0x400000,
    fresh := 100 }

theorem test_set_capture : ((after (.setCapture 4 captureArgs) ready).cameras[(1 : Fin 6)].record.map (·.geo)) = some c1.geo := by
  decide

/-- The arguments that define a view of P0 and P1. -/
def viewArgs (v : BitVec 4) : ViewArgs :=
  { view := v, count := 2, pane0 := 0, pane1 := 1, pane2 := 1, pane3 := 1, layers := 5, chime := false, mask := 0, values := 0,
    linger := 0 }

theorem test_set_view : (after (.setView 2 (viewArgs 4)) busy).views[(4 : Fin 8)].definition = some v3 := by decide

/-- A span of layer 3 on line 7. -/
def spanArgs : SpanArgs := { layer := 3, mode := 1, line := 7, x0 := 100, colour := 0xABCDEF, x1 := 199 }

theorem test_add_span : (after .editCompletion (after (.addSpan 2 spanArgs) busy)).overlay.bankA
    = [{ layer := 3, line := 7, x0 := 100, x1 := 199, colour := 0xABCDEF, mode := .mix }] := by decide

/-- The arguments that make a line an input with a debounce of 5 ms. -/
def lineArgs (n : BitVec 4) (f : BitVec 3) : LineArgs :=
  { line := n, function := f, pullUp := false, activeLow := false, edge := 3, debounce := 5 }

theorem test_set_line : (after (.setLine 1 (lineArgs 2 1)) busy).drive 2 = some true := by decide

/-- L0 an input that debounces: its raw level is high, its timer is aimed at 30 ms. -/
def debouncing : State := busy.setVehicleLine 0
  { config := { function := .input, pullUp := false, activeLow := false, debounce := 5, edge := .both },
    outside := ⟨true, .driven⟩, debounced := false, timer := some 30 }

theorem test_debounce_expiry : (after (.debounceTimerExpiry 0) (at_ debouncing 30)).conditions = 1 := by decide

/-- A rate window that ends at 250 ms after 3 rises, with the source L0. -/
def rating : State := busy.withRate
  { source := some 0, threshold := 4, running := 3, last := 0, timer := some 250, k8 := true }

theorem test_rate_window : (after .rateWindowExpiry (at_ rating 250)).rate
    = { source := some 0, threshold := 4, running := 0, last := 3, timer := some 500, k8 := true } := by decide
theorem test_lateness_expiry :
    ((after (.latenessTimerExpiry 1) (at_ busy 110)).cameras[(1 : Fin 6)].record.map (·.state)) = some .late := by decide
theorem test_scan_stall_expiry : (after .scanStallTimerExpiry (at_ busy 60)).alert.phase = .on := by decide
theorem test_stall_lets_the_flip_go : (after .scanStallTimerExpiry (at_ waitingFlip 60)).command.queue = [] := by decide

/-- V5 lingers until 40 ms, with or without a command hold, on a given stack. -/
def lingering (command : Bool) (stack : List StackEntry) : State :=
  (busy.setViewRec 5 { definition := some v5, inMatch := false, trigger := .lingering 40, command := command }).withStack stack

/-- V5 on top. -/
def overV3 : List StackEntry := ⟨5, false, 30⟩ :: busy.stack

theorem test_linger_expiry_pops : (after (.lingerTimerExpiry 5) (at_ (lingering false overV3) 40)).stack = busy.stack := by decide

/-- The chime sounds, silenced, until 45 ms, the pulse until 35 ms. -/
def chiming : State := busy.withAlert
  { chime := true, chimeTimer := some 45, phase := .on, pulseTimer := some 35, silenced := true, record := [.staleShown, .chime] }

theorem test_pulse_expiry : (after .pulseTimerExpiry (at_ chiming 35)).alert.phase = .off := by decide
theorem test_chime_expiry : (after .chimeTimerExpiry (at_ chiming 45)).alert
    = { chime := false, chimeTimer := none, phase := .idle, pulseTimer := none, silenced := true, record := [.staleShown] } := by
  decide
theorem test_edit_waits : after .editWaitEnd waitingEdit = waitingEdit := by rfl

/-- The context has retired. -/
def drained : State := (waitingEdit.withScan { waitingEdit.scan with slots := #v[none, none] }).withLink State.reset.link

theorem test_edit_wait_ends : (after .editWaitEnd drained).overlay.engine = .editing .clear .b := by decide

/-! ### The queue behind a timed command (R156) and the orders of R145 -/

/-- A part whose head of the queue is in progress, with one more command behind it. -/
def withBehind (s : State) (c : Cmd) : State :=
  s.withCommand { s.command with seq := 11, queue := [head, { seq := 11, words := encodeCommand c.length c }] }

theorem test_hatch_behind_a_flip_follows_the_frame_start :
    (after (.readRequest false (some (readAt 0x20000000))) (withBehind waitingFlip (.setHatch 5))).overlay.hatch = 5
    ∧ ((after (.readRequest false (some (readAt 0x20000000))) (withBehind waitingFlip (.setHatch 5))).scan.slots[(1 : Fin 2)].map
        (·.hatch)) = some 0xFFB000
    ∧ (after .scanStallTimerExpiry (at_ (withBehind waitingFlip (.setHatch 5)) 60)).command.lastSeq = 11 := by decide

/-- V0, V3 and V6 on the stack, V2 and V4 PENDING, all held by their commands. -/
def crowded : State :=
  ([2, 4, 6].foldl (fun s v => s.setViewRec v { definition := some v5, inMatch := false, trigger := .absent, command := true }) busy).withStack
    [⟨6, false, 9⟩, ⟨3, false, 5⟩, ⟨0, false, 0⟩]

theorem test_two_releases_in_two_orders :
    ((after (.releaseView 1 3) (after (.releaseView 1 6) crowded)).stack.map fun e => (e.view, e.released))
      = [(4, false), (3, true), (0, false)]
    ∧ ((after (.releaseView 1 6) (after (.releaseView 1 3) crowded)).stack.map fun e => (e.view, e.released))
      = [(4, false), (2, false), (0, false)] := by decide

/-- A view on K0 with no linger, matching or not. -/
def onK0 (h : TriggerHold) : View := { definition := some { v5 with linger := 0 }, inMatch := true, trigger := h, command := false }

/-- V6 on top of V0 and V2 PENDING, both held by K0, which has gone, and V3 PENDING by its command. -/
def releasing : State :=
  ((busy.setViewRec 6 (onK0 .matching)).setViewRec 2 (onK0 .matching)).withStack [⟨6, false, 9⟩, ⟨0, false, 0⟩]

/-- Log 30: V2 waits until its own release is taken, so the pop of V6 admits it, and its release then marks it. -/
theorem test_pending_view_released_at_the_pop_that_admits_it :
    releasing.isPending 2 = true ∧ releasing.isPending 3 = true ∧ releasing.conditions = 0
    ∧ (releasing.conditionChange.stack.map fun e => (e.view, e.released)) = [(3, false), (2, true), (0, false)] := by decide +kernel

/-! ### States that meet the hypotheses of the statements -/

theorem test_witness_LowResetFreezesThePart : low.resetLow = true ∧ Instr.millisecondTick ≠ .resetAssert
    ∧ (∀ x, Instr.millisecondTick ≠ .resetRelease x) ∧ (∀ n o, Instr.millisecondTick ≠ .lineLevelChange n o)
    ∧ (∀ r, Instr.millisecondTick ≠ .readResponse (some r)) ∧ ∀ r, Instr.millisecondTick ≠ .writeResponse (some r) :=
  ⟨rfl, nofun, fun _ => nofun, fun _ _ => nofun, fun _ => nofun, fun _ => nofun⟩

theorem test_witness_WritesAreForwardedUnchanged : busy.resetLow = false ∧ busy.link.sysPort = []
    ∧ ∀ i, i < 1 → busy.classify (beatAddrOf (linkAddr 0xFFFFFFF8) i) ≠ .slot
      ∧ ∀ c, busy.classify (beatAddrOf (linkAddr 0xFFFFFFF8) i) ≠ .capture c := by
  refine ⟨rfl, rfl, fun i hi => ?_⟩
  have : i = 0 := by omega
  subst this
  exact ⟨by decide, by decide⟩

/-- Two beats of C1's frame: each counts; a burst of 16 beats counts 16. -/
theorem test_witness_WritesAreForwardedUnchanged_burst :
    ((after (.writeRequest false (some ⟨1, linkAddr 0x30500008, [⟨0, 0xFF⟩, ⟨1, 0xFF⟩]⟩)) busy).cameras[(1 : Fin 6)].record.map
      (·.buffers)) = some [.complete 1 10, .filling 2 7]
    ∧ ((after (.writeRequest false (some ⟨1, linkAddr 0x30500008, List.replicate 16 ⟨0, 0xFF⟩⟩)) busy).cameras[(1 : Fin 6)].record.map
      (·.buffers)) = some [.complete 1 10, .filling 2 21] ∧ (List.replicate 16 (⟨0, 0xFF⟩ : WriteBeat)).length ≤ 16 := by decide

/-- A WRITE waits at the head of the system port, a READ behind it. -/
def writeFirst : State := busy.withLink { busy.link with sysPort := [.write (writeOne 1 0xFFFFFFF8 0), .read (readAt 0x40000000)] }

/-- A READ waits at the head of the system port, a WRITE behind it. -/
def readFirst : State := busy.withLink { busy.link with sysPort := [.read (readAt 0x40000000), .write (writeOne 1 0xFFFFFFF8 0)] }

theorem test_witness_requests_that_wait : writeFirst.link.sysPort = .write (writeOne 1 0xFFFFFFF8 0) :: [.read (readAt 0x40000000)]
    ∧ readFirst.link.sysPort = .read (readAt 0x40000000) :: [.write (writeOne 1 0xFFFFFFF8 0)]
    ∧ readFirst.link.table.length < 32 ∧ readFirst.readClass (readAt 0x40000000) = .plain
    ∧ (after (.writeRequest false none) writeFirst).link.memOut = some (.write (writeOne 1 0xFFFFFFF8 0))
    ∧ (after (.readRequest false none) readFirst).link.memOut = some (.read (readAt 0x40000000)) := by decide

/-- The table holds 32 entries. -/
def full : State := busy.withLink { busy.link with table := List.replicate 32 entryEx }

/-- Both slots hold live contexts. -/
def bothLive : State := busy.setSlot 1 (some ctx)

theorem test_witness_HeldRequestsWait : full.link.sysPort = [] ∧ 32 ≤ full.link.table.length
    ∧ bothLive.link.sysPort = [] ∧ bothLive.isFrameStart (readAt 0x20000000) = true
    ∧ ∀ k : Fin 2, bothLive.scan.slots[k].isSome = true := by decide

/-- A frame start waits at the head of the port, a further SCAN read behind it. -/
theorem test_witness_HeldRequestsWait_head :
    let s := busy.withLink { busy.link with sysPort := [.read (readAt 0x20000000), .read (readAt 0x20000008)] }
    s.link.table.length < 32 ∧ s.scan.slots[(1 : Fin 2)] = none
    ∧ ((after (.readRequest false none) s).scan.slots[(1 : Fin 2)].map (·.frame)) = some 2
    ∧ (after (.readRequest false none) s).link.sysPort = [.read (readAt 0x20000008)] := by decide

/-- A record that expects the last continuation of a command of four words in slot 0. -/
def assembling : State := ready.setAssembly (some { words := [0x1180000000000000, 0], length := 4, next := 0 })

theorem test_witness_SlotBeatsAssembleOrAreLost :
    (0x7F : BitVec 8) ≠ 0xFF
    ∧ (ready.command.assembly = none ∧ (headerLength 0x2040000000200100).toNat = 2 ∧ (headerLength 0x1180000000000000).toNat = 4)
    ∧ ((headerLength 0x0100000000000000).toNat = 0 ∧ (headerLength 0x01A0000000000000).toNat = 5)
    ∧ (assembling.command.assembly = some { words := [0x1180000000000000, 0], length := 4, next := 0 } ∧ (63 : Fin 64) ≠ 0
        ∧ [(0x1180000000000000 : Word), 0].length + 1 < 4) := by decide

/-- SET_HATCH in slot 63 breaks the command that slot 0 would continue; a header of no length is lost besides; a SET_PANE completes in slot 7; a command row leaves the partial command. -/
theorem test_words_out_of_order_and_completing :
    (after (.writeRequest false (some (writeOne 9 0x0FFFF1F8 0x4520000000123456))) assembling).overlay.hatch = 0x123456
    ∧ (after (.writeRequest false (some (writeOne 9 0x0FFFF1F8 0x4520000000123456))) assembling).command.lost = 1
    ∧ (after (.writeRequest false (some (writeOne 9 0x0FFFF1F8 0))) assembling).command.lost = 2
    ∧ (after (.writeRequest false (some (writeOne 9 0x0FFFF038 0x0000000001680280)))
        (ready.setAssembly (some { words := [0x2040000000200100], length := 2, next := 7 }))).panes[(0 : Fin 16)] = some ⟨1, p0⟩
    ∧ (after (.setHatch 1 5) assembling).command.assembly = assembling.command.assembly := by decide

theorem test_witness_CommandWordsDoWhatTheirRowDoes : ready.resetLow = false ∧ ready.link.sysPort = []
    ∧ ready.command.assembly = none ∧ 62 + (Cmd.setPane paneEx).length.toNat ≤ 64 := by decide

theorem test_witness_OrdinaryAndFinalCaptureBeats_ordinary : busy.cameras[(1 : Fin 6)].record = some c1
    ∧ busy.classify (byteAddr (linkAddr 0x30500008)) = .capture 1 ∧ (0x30500008 - 0x30100000) / 0x400000 = 1
    ∧ c1.buffers[1]? = some (.filling 2 5) := by decide

/-- The final beat's address in buffer 1 of C1. -/
def finalAt : Nat := 0x30500000 + 719 * 5120 + 1278 * 4

/-- C1 with `n` beats counted in buffer 1. -/
def counted (n : Nat) : State := busy.setCamera 1 ⟨1, some { c1 with buffers := [.complete 1 10, .filling 2 n] }⟩

theorem test_witness_OrdinaryAndFinalCaptureBeats_final : (counted 460799).classify (byteAddr (linkAddr finalAt)) = .capture 1
    ∧ (finalAt - 0x30100000) / 0x400000 = 1 ∧ (finalAt - 0x30100000) % 0x400000 / 5120 = 719
    ∧ (finalAt - 0x30100000) % 0x400000 % 5120 / 4 = 1278 ∧ 720 * 1280 / 2 ≤ 460799 + 1 ∧ 460798 + 1 < 720 * 1280 / 2 := by decide

/-- C1's record is in order. -/
theorem test_c1_is_in_order : c1.Ok :=
  ⟨by decide, by decide, by decide, by rfl, by decide, by decide, by decide⟩

theorem test_witness_FrameFirstAndDamagingBeats : busy.cameras[(1 : Fin 6)].record = some c1
    ∧ busy.classify (byteAddr (linkAddr 0x30100000)) = .capture 1 ∧ c1.buffers[(1 : Nat)]? = some (.filling 2 5)
    ∧ busy.classify (byteAddr (linkAddr 0x30100008)) = .capture 1 ∧ (c1.buffer 0).isFilling = false
    ∧ c1.buffers[(0 : Nat)]? = some (.complete 1 10) ∧ c3.buffers[(1 : Nat)]? = some .empty ∧ (7 : Tag) ≠ c1.geo.owner := by decide

theorem test_witness_PlainAndStatusReadsAreForwarded : busy.link.table.length < 32
    ∧ busy.readClass (readAt 0x40000000) = .plain ∧ busy.readClass (readAt (0x0FFFF200 - 120)) = .status
    ∧ busy.readClass (readAt 0x0FFFF400) = .plain ∧ ready.command.running = false
    ∧ busy.readClass (readAt 0x20000000) = .scan ∧ busy.isFrameStart (readAt 0x20000000) = true
    ∧ busy.isFrameStart (readAt 0x20000008) = false := by decide

theorem test_witness_FrameStartOpensAContext : busy.isFrameStart (readAt 0x20000000) = true
    ∧ busy.scan.definition = some scanEx ∧ busy.freeSlot = some 1 ∧ busy.overlay.flipWaiting = false
    ∧ busy.overlay.engine = .idle ∧ (∀ e ∈ busy.link.table, e.context ≠ some 1)
    ∧ busy.stack = ⟨3, false, 5⟩ :: [⟨0, false, 0⟩] ∧ busy.views[(3 : Fin 8)].definition = some v3 := by decide

/-- A frame start that shows a chime view anew, on a part whose alert is `a`. -/
def chimeStart (a : Alert) : State :=
  after (.readRequest false (some (readAt 0x20000000)))
    (((busy.withAlert a).setViewRec 3 ⟨some { v3 with chime := true }, false, .absent, true⟩).withScan
      { busy.scan with lastShown := some 0 })

/-- A chime that starts with no other cause, silenced by a record without it; one that is re-aimed. -/
theorem test_witness_FrameStartOpensAContext_chime :
    (chimeStart { chime := false, chimeTimer := none, phase := .idle, pulseTimer := none, silenced := true, record := [.staleShown] }).alert
      = { chime := true, chimeTimer := some 2025, phase := .on, pulseTimer := some 275, silenced := false, record := [] }
    ∧ (chimeStart chiming.alert).alert = { chiming.alert with chimeTimer := some 2025 } := by decide

/-- SCAN_STALL and a silence that records it end at a frame start. -/
theorem test_witness_FrameStartOpensAContext_stall :
    (after (.readRequest false (some (readAt 0x20000000))) ((busy.withAlert
        { chime := false, chimeTimer := none, phase := .off, pulseTimer := some 30, silenced := true, record := [.scanStall] }).withScan
      { busy.scan with stallTimer := none, scanStall := true })).alert
      = { chime := false, chimeTimer := none, phase := .idle, pulseTimer := none, silenced := false, record := [] } := by decide

/-- P0 moved to the left end of its line, or 2 pixels from it. -/
def moved (left : Nat) : State := busy.setPaneRec 0 (some ⟨1, { p0 with left := left }⟩)

/-- The panes entered at a frame start. -/
def judgedAt (s : State) : List PaneEntry := s.judgePanes scanEx [0, 1] []

theorem test_witness_FrameStartOpensAContext_own_read :
    judgedAt (moved 0) = [{ e0 with geo := { p0 with left := 0 } }, e1]
    ∧ (∀ i, i < 16 → ({ p0 with left := 0 } : PaneGeo).holdsBeat (ctx.place (linkAddr 0x20000000) i) = true ∧ 8 * i / 7680 = 0)
    ∧ e1.geo.sharesPixel { p0 with left := 0 } = false
    ∧ (after (.readRequest false (some (readAt 0x20000000))) (moved 0)).link.memOut = some (.read (readAt 0x30100000))
    ∧ (∃ i, i < 16 ∧ p0.holdsBeat (ctx.place (linkAddr 0x20000000) i) = false)
    ∧ (after (.readRequest false (some (readAt 0x20000000))) (moved 2)).events[(5 : Fin 14)].count = 1
    ∧ (after (.readRequest false (some (readAt 0x20000000))) busy).events[(5 : Fin 14)].count = 0 := by decide

/-- A camera without a frame, a source rectangle past the frame of C3, a pane on a camera that is not defined, and one that shares its pixels. -/
def misfits : State :=
  (((busy.setPaneRec 1 (some ⟨3, { p1 with srcX := 642 }⟩)).setPaneRec 2 (some ⟨5, { p1 with top := 0, height := 300 }⟩)).setPaneRec 3
      (some ⟨1, { p1 with left := 1282 }⟩)).setCamera 1
    ⟨1, some { c1 with buffers := [.empty, .empty], newest := none, state := .noFrame, lateness := none }⟩

theorem test_witness_PanesAreJudgedAtTheFrameStart :
    busy.panes[(2 : Fin 16)] = none ∧ busy.panes[(0 : Fin 16)] = some ⟨1, p0⟩ ∧ p0.accepted = true ∧ p1.accepted = true
    ∧ judgedAt busy = [e0, e1] ∧ judgedAt clockless = [{ e0 with judgement := .stale }, e1]
    ∧ misfits.judgePanes scanEx [0, 1, 2, 3, 4] []
        = [darkEntry 0 p0 false, darkEntry 1 { p1 with srcX := 642 } true, darkEntry 2 { p1 with top := 0, height := 300 } true]
    ∧ busy.judgePanes scanEx [0] [{ e1 with geo := { p1 with left := 670, top := 359 } }]
        = [{ e1 with geo := { p1 with left := 670, top := 359 } }] := by decide

theorem test_witness_CameraFollowsItsNewestBuffer : busy.cameras[(1 : Fin 6)].record = some c1 ∧ c1.Ok
    ∧ busy.classify (byteAddr (linkAddr 0x30100000)) = .capture 1
    ∧ (after (.writeRequest false (some (writeOne 1 0x30100000 0))) busy).events[(1 : Fin 14)].count = 1
    ∧ ((after (.writeRequest false (some (writeOne 1 finalAt 0))) (counted 460799)).cameras[(1 : Fin 6)].record.map
        fun r => (r.newest, r.state, r.lateness)) = some (some 1, .fresh, some 125) :=
  ⟨by decide, test_c1_is_in_order, by decide⟩

/-- Bank B active, so that bank A is the edit bank, with the context on bank A. -/
def referencedA : State := (busy.setSlot 0 (some { ctx with bank := .a }))

/-- An edit of bank A that waits while the older context names bank A, with or without reads in flight. -/
def waitsForA (e : Edit) (table : List Entry) : State :=
  (working referencedA fun o => { o with engine := .waiting e .a }).withLink { busy.link with table := table }

theorem test_witness_FrameStartTakesAFlipOrEndsAWait_wait :
    (waitsForA .clear [entryEx]).isFrameStart (readAt 0x20000000) = true ∧ (waitsForA .clear [entryEx]).freeSlot = some 1
    ∧ (waitsForA .clear [entryEx]).command.queue = [head] ∧ Bank.a ≠ (waitsForA .clear []).overlay.active
    ∧ 0 < (waitsForA .clear [entryEx]).refCount (otherSlot 1) ∧ (waitsForA .clear []).refCount (otherSlot 1) = 0
    ∧ contentCheck .clear ((waitsForA .clear []).overlay.spans .a) = none
    ∧ contentCheck (.remove 0 1 1) ((waitsForA (.remove 0 1 1) []).overlay.spans .a) = some .notFound
    ∧ (after (.readRequest false (some (readAt 0x20000000))) (waitsForA .clear [])).overlay.engine = .editing .clear .a := by decide

theorem test_witness_FrameStartTakesAFlipOrEndsAWait_flip : waitingFlip.isFrameStart (readAt 0x20000000) = true
    ∧ waitingFlip.freeSlot = some 1 ∧ waitingFlip.overlay.flipWaiting = true ∧ waitingFlip.overlay.engine = .idle
    ∧ waitingFlip.command.queue = [head] ∧ ∀ e ∈ waitingFlip.link.table, e.context ≠ some 1 := by decide

theorem test_witness_ScanReadInAPaneIsRedirected_plain : busy.readClass (readAt 0x200BBC80) = .scan
    ∧ busy.isFrameStart (readAt 0x200BBC80) = false ∧ busy.newestOpen = some 0 ∧ busy.scan.slots[(0 : Fin 2)] = some ctx
    ∧ e0 ∈ ctx.panes ∧ (∀ x ∈ ctx.panes, x = e0 ∨ x.geo.sharesPixel e0.geo = false)
    ∧ (∀ i, i < 16 → (0xBBC80 + 8 * i) / 7680 = 100 ∧ 32 ≤ (0xBBC80 + 8 * i) % 7680 / 4
        ∧ (0xBBC80 + 8 * i) % 7680 / 4 + 1 < 32 + 640) := by decide

theorem test_witness_ScanReadInAPaneIsRedirected_mirrored : busy.readClass (readAt 0x202EFD80) = .scan ∧ e1 ∈ ctx.panes
    ∧ (∀ x ∈ ctx.panes, x = e1 ∨ x.geo.sharesPixel e1.geo = false)
    ∧ (∀ i, i < 16 → (0x2EFD80 + 8 * i) / 7680 = 400 ∧ 1280 ≤ (0x2EFD80 + 8 * i) % 7680 / 4
        ∧ (0x2EFD80 + 8 * i) % 7680 / 4 + 1 < 1280 + 640) := by decide

/-- In RUN with no context open. -/
def noContext : State := busy.withScan { busy.scan with slots := #v[none, none] }

theorem test_witness_ScanReadsNotRedirected_no_context : noContext.readClass (readAt 0x200BBC80) = .scan
    ∧ noContext.isFrameStart (readAt 0x200BBC80) = false ∧ noContext.newestOpen = none := by decide

theorem test_witness_ScanReadsNotRedirected_no_pane : busy.readClass (readAt 0x200B99C0) = .scan
    ∧ ∀ p ∈ ctx.places (linkAddr 0x200B99C0) 16, ∀ e ∈ ctx.panes, e.judgement ≠ .dark → e.geo.holdsBeat p = false := by decide

theorem test_witness_ScanReadsNotRedirected_split :
    (∃ p ∈ ctx.places (linkAddr 0x200BC240) 16, ∃ e ∈ ctx.panes, e.judgement ≠ .dark ∧ e.geo.holdsBeat p = true)
    ∧ ∀ e ∈ ctx.panes, e.judgement ≠ .dark → ∃ p ∈ ctx.places (linkAddr 0x200BC240) 16,
        e.geo.holdsBeat p = false ∨ p.line ≠ (ctx.place (linkAddr 0x200BC240) 0).line := by decide

/-- A STATUS read of two beats, the first at the last offset below the status area. -/
def statusEntry : Entry :=
  { tag := 7, addr := linkAddr 0x0FFFF1F8, beats := 1, cls := .status, context := none, redirect := none }

theorem test_witness_ResponsesAreTakenAndMatched : busy.link.delivering = none ∧ busy.link.memPort = []
    ∧ delivering.link.delivering ≠ none ∧ delivering.link.memPort = []
    ∧ (after (.readResponse none) (busy.withLink { busy.link with memPort := [.read responseEx, .write ⟨4, false, 1⟩] })).link
        = { delivering.link with memPort := [.write ⟨4, false, 1⟩] }
    ∧ ∀ x ∈ [statusEntry], x.tag ≠ entryEx.tag := by decide

/-- The delivery of a response to which no stage applies. -/
def unstaged : Delivering := { response := .read ⟨2, true, [1, 2]⟩, entry := some entryEx, staged := false, sent := 0 }

theorem test_witness_UnstagedResponsesAreDeliveredAsReceived :
    (busy.withLink { busy.link with delivering := some unstaged }).link.delivering = some unstaged
    ∧ (responseData unstaged.response).length = 2 ∧ unstaged.sent + 1 < 2 ∧ { unstaged with entry := none }.entry = none := by decide

/-- The last beat of the one read that names slot 0 is about to be delivered, a newer context live in slot 1, and an edit of bank B waits. -/
def lastBeat (e : Edit) : State :=
  (waitingEdit.withLink { busy.link with delivering := some { unstaged with sent := 1 } }).withScan
    { busy.scan with slots := #v[some ctx, some { ctx with bank := .a }], lastOpened := 1 } |>.setEngine (.waiting e .b)

theorem test_witness_UnstagedResponsesAreDeliveredAsReceived_retirement : (lastBeat .clear).command.queue = [head]
    ∧ (lastBeat .clear).mayRetire [] 0 ∧ (lastBeat .clear).scan.slots[(0 : Fin 2)] = some ctx
    ∧ contentCheck .clear ((lastBeat .clear).overlay.spans .b) = none
    ∧ contentCheck (.remove 0 1 1) ((lastBeat (.remove 0 1 1)).overlay.spans .b) = some .notFound
    ∧ (after (.responseDelivery 1) (lastBeat .clear)).overlay.engine = .editing .clear .b
    ∧ (after (.responseDelivery 1) (withBehind (lastBeat (.remove 0 1 1)) .bypass)).scan.slots[(1 : Fin 2)] = none
    ∧ (after (.responseDelivery 1) (waitingEdit.withLink { busy.link with delivering := some unstaged })).overlay = waitingEdit.overlay :=
  ⟨rfl, ⟨nofun, Or.inl (by decide)⟩, by decide⟩

/-- Its response, taken. -/
def statusDelivering : State :=
  after (.readResponse (some ⟨7, false, [5, 6]⟩)) (busy.withLink { busy.link with table := [entryEx, statusEntry] })

theorem test_witness_StatusBeatsAreSubstituted : statusDelivering.link.delivering
      = some { response := .read ⟨7, false, [5, 6]⟩, entry := some statusEntry, staged := true, sent := 0 }
    ∧ ((after (.responseDelivery 2) statusDelivering).link.sysOut.map (·.beats)) = some [5, 0x20640]
    ∧ ((after (.responseDelivery 1) (after (.responseDelivery 1) statusDelivering)).link.sysOut.map
        fun o => (o.first, o.final, o.beats)) = some (1, true, [0x20640]) := by decide

/-- The words of a part at work: its stack, its scan window, an edit that waits, its camera C1 and its context. -/
theorem test_witness_StatusWords : waitingEdit.stack.reverse[1]? = some ⟨3, false, 5⟩ ∧ waitingEdit.scan.definition = some scanEx
    ∧ waitingEdit.overlay.engine = .waiting .clear .b ∧ rating.rate.source = some 0 ∧ waitingEdit.StackOk
    ∧ busy.scan.slots[(0 : Fin 2)] = some ctx ∧ ctx.panes[1]? = some e1 ∧ c1.Ok ∧ c1.newest = some 0
    ∧ waitingEdit.statusWord 0x280 = 0x00FFB000004000B5 :=
  ⟨by decide, by decide, by decide, by decide, ⟨⟨by decide, trivial⟩, by decide⟩, by decide, by decide, test_c1_is_in_order, by decide⟩

theorem test_witness_ScanResponsesAreReversedAndComposed : delivering.link.delivering
      = some { response := .read responseEx, entry := some entryEx, staged := true, sent := 0 }
    ∧ entryEx.cls ≠ .status ∧ responseEx.data.length ≤ 4 ∧ entryEx.context = some 0
    ∧ delivering.scan.slots[(0 : Fin 2)] = some ctx
    ∧ ((after (.responseDelivery 31) (after (.responseDelivery 1) delivering)).link.sysOut.map fun o => (o.first, o.final, o.beats))
        = some (1, true, [0x0050505000007F00, 0x00977018009F7820, 0x00876047009F7820]) := by decide

/-- Pixel 1290 of line 404 after each layer: SOLID green, SOLID red, SHADE black. -/
def madeEx (n : Nat) : Pixel :=
  if n = 0 then 0x00101010 else if n = 1 then 0x0000FF00 else if n ≤ 2 then 0x0000FF00 else 0x00007F00

theorem test_witness_PixelsAreComposed : BankOk spansEx
    ∧ (∀ n : Fin 8,
      (∀ x ∈ spansEx, (5 : BitVec 8).getLsbD n.val = true → x.layer = n → x.line = 404 → x.x0 ≤ 1290 → 1290 ≤ x.x1 →
        madeEx (n.val + 1) = combine x.mode.apply (madeEx n.val) x.colour)
      ∧ (((5 : BitVec 8).getLsbD n.val = false ∨ ∀ x ∈ spansEx, ¬(x.layer = n ∧ x.line = 404 ∧ x.x0 ≤ 1290 ∧ 1290 ≤ x.x1)) →
        madeEx (n.val + 1) = madeEx n.val))
    ∧ (1290 < ctx.width ∧ 404 < ctx.height ∧ ctx.width ≤ 1920) ∧ (1290 + 404) / 8 % 2 = 1 ∧ (1292 + 404) / 8 % 2 = 0
    ∧ (e1 ∈ ctx.panes ∧ e1.judgement ≠ .live ∧ p1.holdsPixel 404 1292 = true) := by
  refine ⟨⟨by decide, by decide, by decide, fun n => Nat.le_trans List.countP_le_length (by decide), by unfold Span.Ok; decide⟩,
    fun n => ⟨?_, ?_⟩, by decide⟩
  · revert n; decide
  · revert n; decide

theorem test_witness_SpanModesChangeComponents : (0x123456 : Colour) = (0x00123456 : Pixel).extractLsb' 0 24 := by decide

theorem test_witness_TicksAndClockLoss : busy.time.lost = false ∧ busy.dueTimers = [] ∧ clockless.time.lost = true := by decide

/-- One timer due, and two. -/
theorem test_witness_TicksAndClockLoss_due : (at_ busy 60).dueTimers = [.scanStall]
    ∧ (after .millisecondTick (at_ busy 60)).scan.scanStall = true ∧ (after (.clockLoss 0) (at_ busy 60)).scan.scanStall = true
    ∧ (at_ (chiming.withScan { busy.scan with stallTimer := some 45 }) 45).dueTimers = [.scanStall, .chime] := by decide

theorem test_witness_TimersExpireWhenDue_not_due : (∀ n : Fin 8, debouncing.due debouncing.lines[n].timer = false)
    ∧ rating.due rating.rate.timer = false ∧ busy.due (some 110) = false ∧ busy.due busy.scan.stallTimer = false
    ∧ (lingering false overV3).due (some 40) = false ∧ chiming.due chiming.alert.pulseTimer = false
    ∧ chiming.due chiming.alert.chimeTimer = false
    ∧ (clockless.withTime { clockless.time with ms := 60 }).due clockless.scan.stallTimer = false := by decide

theorem test_witness_ScanStallExpiry : (at_ busy 60).due (at_ busy 60).scan.stallTimer = true ∧ busy.scan.scanStall = false
    ∧ busy.overlay.flipWaiting = false ∧ busy.alert.chime = false ∧ (at_ chiming 60).alert.chime = true
    ∧ Cause.scanStall ∉ chiming.alert.record ∧ waitingFlip.overlay.flipWaiting = true
    ∧ waitingFlip.command.queue = [head] ∧ (at_ waitingFlip 60).due (at_ waitingFlip 60).scan.stallTimer = true := by decide

/-- V5 buried below V6. -/
def belowV6 : List StackEntry := [⟨6, false, 30⟩, ⟨5, false, 20⟩, ⟨0, false, 0⟩]

theorem test_witness_LingerExpiryEndsTheHold :
    (at_ (lingering true overV3) 40).views[(5 : Fin 8)].trigger = .lingering 40
    ∧ (at_ (lingering true overV3) 40).due (some 40) = true ∧ (lingering true overV3).views[(5 : Fin 8)].command = true
    ∧ (lingering false busy.stack).onStack 5 = false
    ∧ (lingering false belowV6).onStack 5 = true ∧ (lingering false belowV6).topView = 6
    ∧ (lingering false overV3).views[(5 : Fin 8)].command = false ∧ (lingering false overV3).topView = 5 := by decide

theorem test_witness_TimersExpireWhenDue_due : (at_ busy 110).due c1.lateness = true ∧ c1.state = .fresh
    ∧ (at_ chiming 35).due chiming.alert.pulseTimer = true ∧ (at_ chiming 45).due chiming.alert.chimeTimer = true
    ∧ chiming.alert.chime = true := by decide

/-- The raw level of L0 high and followed, with a debounce of `d`. -/
def followed (d : Nat) (debounced : Bool) : State := busy.setVehicleLine 0
  { config := { function := .input, pullUp := true, activeLow := false, debounce := d, edge := .rising },
    outside := ⟨false, .floating⟩, debounced := debounced, timer := none }

theorem test_witness_DebouncedLevelsFollow : (followed 1 true).lines[(0 : Fin 8)].config.function = .input
    ∧ (followed 1 true).raw 0 = true ∧ pinLevel ⟨false, .driven⟩ none true = false
    ∧ (followed 1 true).lines[(0 : Fin 8)].debounced = true ∧ (followed 0 true).lines[(0 : Fin 8)].config.debounce = 0
    ∧ (followed 1 false).lines[(0 : Fin 8)].debounced = false
    ∧ (at_ debouncing 30).due debouncing.lines[(0 : Fin 8)].timer = true
    ∧ (at_ debouncing 30).raw 0 ≠ debouncing.lines[(0 : Fin 8)].debounced := by decide

theorem test_witness_DebouncedLevelsFollow_raw :
    (followed 1 true).lines[(0 : Fin 8)].outside.grip = .floating ∧ (followed 1 true).lines[(0 : Fin 8)].config.pullUp = true
    ∧ debouncing.lines[(0 : Fin 8)].config.pullUp = false ∧ low.resetLow = true
    ∧ (after (.setLine 1 (lineArgs 7 1)) busy).lines[(7 : Fin 8)].config.function = .alert
    ∧ (after (.setLine 1 (lineArgs 7 1)) busy).lines[(7 : Fin 8)].outside.grip ≠ .overpowering
    ∧ (after (.lineLevelChange 7 ⟨false, .overpowering⟩) (after (.setLine 1 (lineArgs 7 1)) busy)).raw 7 = false := by decide

theorem test_witness_RateInput_window : (at_ rating 250).due rating.rate.timer = true
    ∧ rating.rate.k8 = decide (rating.rate.running < rating.rate.threshold) := by decide

/-- An edit in EDITING. -/
def editing : State := working busy fun o => { o with engine := .editing .copy .a }

theorem test_witness_EditsWaitAndComplete_completion : editing.overlay.engine = .editing .copy .a
    ∧ editing.command.queue = [head] ∧ busy.overlay.engine = .idle := by decide

/-- An edit of a missing span that waits for bank B, which nothing references. -/
def missing : State := (working noContext fun o => { o with engine := .waiting (.remove 0 1 1) .b })

theorem test_witness_EditsWaitAndComplete_wait : waitingEdit.overlay.engine = .waiting .clear .b ∧ waitingEdit.command.queue = [head]
    ∧ waitingEdit.scan.slots[(0 : Fin 2)] = some ctx ∧ ctx.bank = .b
    ∧ (∀ k : Fin 2, drained.scan.slots[k] = none) ∧ contentCheck .clear (drained.overlay.spans .b) = none
    ∧ (∀ k : Fin 2, missing.scan.slots[k] = none)
    ∧ contentCheck (.remove 0 1 1) (missing.overlay.spans .b) = some .notFound := by decide

/-- A span of layer 0 on line 7, columns 10 to 19. -/
def spanAt : Span := { layer := 0, line := 7, x0 := 10, x1 := 19, colour := 0, mode := .solid }

theorem test_witness_ContentChecks : spanAt.Ok ∧ (∀ y ∈ List.replicate 2048 spanAt, y.Ok)
    ∧ contentCheck (.add spanAt) [spanAt] = some .duplicate ∧ contentCheck (.add { spanAt with x0 := 19, x1 := 30 }) [spanAt] = some .overlap
    ∧ contentCheck (.add { spanAt with x0 := 20, x1 := 30 }) [spanAt] = none
    ∧ contentCheck (.add { spanAt with layer := 1 }) (List.replicate 24 spanAt) = some .lineFull
    ∧ contentCheck (.add { spanAt with layer := 1 }) (List.replicate 23 spanAt) = none
    ∧ 2048 ≤ (List.replicate 2048 spanAt).length ∧ (∀ y ∈ List.replicate 2048 spanAt, y.line ≠ 8) := by
  refine ⟨by unfold Span.Ok; decide, fun y h => ?_, by decide, by decide, by decide, by decide, by decide, Nat.le_of_eq List.length_replicate.symm, fun y h => ?_⟩
  · rw [(List.mem_replicate.mp h).2]; unfold Span.Ok; decide
  · rw [(List.mem_replicate.mp h).2]; decide

theorem test_witness_OverlayCommandsStart_edits : busy.Ready ∧ busy.referenced busy.overlay.active.other = false
    ∧ referencedA.Ready ∧ referencedA.referenced referencedA.overlay.active.other = true
    ∧ contentCheck .clear busy.overlay.bankA = none
    ∧ contentCheck (.remove 0 1 1) (busy.overlay.spans busy.overlay.active.other) = some .notFound
    ∧ (1079 : BitVec 11).toNat ≤ 1079 ∧ 1079 < (1080 : BitVec 11).toNat ∧ spanArgs.mode ≠ 3
    ∧ spanArgs.x0.toNat ≤ spanArgs.x1.toNat :=
  ⟨⟨rfl, rfl, rfl⟩, by decide, ⟨rfl, rfl, rfl⟩, by decide⟩

theorem test_witness_OverlayCommandsStart_flip : busy.Ready ∧ busy.command.running = true
    ∧ (∃ k : Fin 2, busy.scan.slots[k].isSome = true) ∧ busy.scan.scanStall = false ∧ ready.Ready
    ∧ ready.command.running = false :=
  ⟨⟨rfl, rfl, rfl⟩, rfl, ⟨0, rfl⟩, rfl, ⟨rfl, rfl, rfl⟩, rfl⟩

theorem test_witness_RunAndBypass_run : busy.Ready ∧ busy.command.running = true ∧ ready.Ready ∧ ready.scan.definition = none
    ∧ (ready.withScan { ready.scan with definition := some scanEx }).Ready :=
  ⟨⟨rfl, rfl, rfl⟩, rfl, ⟨rfl, rfl, rfl⟩, rfl, ⟨rfl, rfl, rfl⟩⟩

/-- The scan window's arguments at the boundary: base and height so that the window ends at 2^32. -/
def topScan : ScanArgs := ⟨2, 0xFFFF8000, 2048, 512, 16, 10⟩

theorem test_witness_SetScanDefinesTheWindow : ready.Ready
    ∧ (topScan.base.toNat + topScan.stride.toNat * topScan.height.toNat = 2 ^ 32 ∧ topScan.stall.toNat = 10)
    ∧ (after (.setScan 3 topScan) ready).command.lastResult = some .ok
    ∧ (after (.setScan 3 { topScan with base := 0xFFFF8008 }) ready).command.lastResult = some .badArgument
    ∧ (after (.setScan 3 { topScan with base := 0x0FFF7008 }) ready).command.lastResult = some .overlap
    ∧ (after (.setScan 3 { topScan with base := 0x0FFF7000 }) ready).command.lastResult = some .ok :=
  ⟨⟨rfl, rfl, rfl⟩, by decide⟩

theorem test_witness_CaptureDefinitions : busy.Ready ∧ busy.cameras[(1 : Fin 6)].isFresh = true
    ∧ (after (.setCapture 4 captureArgs) busy).command.lastResult = some .ok
    ∧ (after (.setCapture 4 { captureArgs with camera := 6 }) busy).command.lastResult = some .badArgument
    ∧ (after (.setCapture 4 { captureArgs with camera := 2 }) busy).command.lastResult = some .overlap
    ∧ (after (.setCapture 4 { captureArgs with camera := 0, base := 0x1F800000 }) busy).command.lastResult = some .ok
    ∧ (after (.setCapture 4 { captureArgs with camera := 0, base := 0x1F801000 }) busy).command.lastResult = some .overlap
    ∧ 5 < (6 : BitVec 3).toNat :=
  ⟨⟨rfl, rfl, rfl⟩, by decide⟩

/-- C1's lock is set apart, C3's is kept. -/
theorem test_witness_CaptureDefinitions_locks :
    ((after (.clearCapture 1 1) busy).scan.slots[(0 : Fin 2)].map fun c => c.panes.map fun e => e.lock.map (·.current))
      = some [some false, some true] := by decide

/-- A pane at the far corner. -/
def cornerPane : PaneArgs :=
  { pane := 15, camera := 5, mirror := true, left := 2046, top := 1079, width := 2, height := 1, srcX := 2046, srcY := 1079 }

theorem test_witness_PaneDefinitions : ready.Ready
    ∧ (after (.setPane 2 cornerPane) ready).command.lastResult = some .ok
    ∧ (after (.setPane 2 { cornerPane with width := 4 }) ready).command.lastResult = some .badArgument
    ∧ (after (.setPane 2 { cornerPane with pane := 16 }) ready).command.lastResult = some .badArgument
    ∧ 15 < (16 : BitVec 5).toNat := ⟨⟨rfl, rfl, rfl⟩, by decide⟩

/-- P1 moved over P0. -/
def sharing : State := busy.setPaneRec 1 (some ⟨3, { p1 with left := 670, top := 359 }⟩)

theorem test_witness_ViewDefinitions : busy.Ready
    ∧ 7 < (8 : BitVec 4).toNat ∧ busy.views[(3 : Fin 8)].wanted = true
    ∧ (busy.views[(4 : Fin 8)].wanted = false ∧ busy.onStack 4 = false)
    ∧ (after (.setView 2 (viewArgs 3)) busy).command.lastResult = some .inUse
    ∧ (after (.setView 2 { viewArgs 4 with count := 3 }) busy).command.lastResult = some .badArgument
    ∧ (after (.setView 2 (viewArgs 4)) sharing).command.lastResult = some .overlap
    ∧ (after (.clearView 1 3) busy).command.lastResult = some .inUse := ⟨⟨rfl, rfl, rfl⟩, by decide⟩

/-- V5 held by its command, on a given stack. -/
def commanded (stack : List StackEntry) : State :=
  (busy.setViewRec 5 { definition := some v5, inMatch := false, trigger := .absent, command := true }).withStack stack

/-- V5 not wanted but still on the stack, below V6. -/
def marked : State := busy.withStack [⟨6, false, 30⟩, ⟨5, true, 20⟩, ⟨0, false, 0⟩]

theorem test_witness_RequestAndReleaseView : busy.Ready
    ∧ busy.views[(4 : Fin 8)].definition = none ∧ busy.views[(5 : Fin 8)].definition ≠ none
    ∧ busy.views[(3 : Fin 8)].wanted = true
    ∧ (marked.views[(5 : Fin 8)].wanted = false ∧ marked.onStack 5 = true)
    ∧ (busy.views[(5 : Fin 8)].wanted = false ∧ busy.onStack 5 = false ∧ busy.topView < 5)
    ∧ ((busy.withStack [⟨6, false, 30⟩, ⟨0, false, 0⟩]).onStack 5 = false ∧ (5 : Fin 8) < (busy.withStack belowV6).topView)
    ∧ busy.views[(5 : Fin 8)].command = false
    ∧ ((commanded belowV6).onStack 5 = true ∧ (commanded belowV6).topView ≠ 5)
    ∧ ((commanded overV3).views[(5 : Fin 8)].command = true ∧ (commanded overV3).views[(5 : Fin 8)].trigger = .absent
        ∧ (commanded overV3).topView = 5) := ⟨⟨rfl, rfl, rfl⟩, by decide⟩

theorem test_witness_SetLineConfiguresALine : busy.Ready
    ∧ 7 < (8 : BitVec 4).toNat ∧ 3 < (4 : BitVec 3).toNat
    ∧ (after (.setLine 1 { lineArgs 1 0 with edge := 0, debounce := 0 }) busy).lines = busy.lines
    ∧ (after (.setLine 1 (lineArgs 7 3)) (after (.setLine 1 (lineArgs 7 1)) busy)).drive 7 = some true
    ∧ rating.rate.source = some 0 ∧ (after (.setLine 1 (lineArgs 0 2)) rating).rate.source = none
    ∧ pinLevel ⟨false, .driven⟩ none true = (followed 1 false).raw 1 ∧ pinLevel ⟨false, .floating⟩ none true ≠ busy.raw 1
    ∧ (after (.setLine 1 { lineArgs 1 0 with pullUp := true, debounce := 0 }) busy).lines[(1 : Fin 8)].debounced = true
    ∧ (after (.setLine 1 { lineArgs 1 0 with pullUp := true }) busy).lines[(1 : Fin 8)].timer = some 30 :=
  ⟨⟨rfl, rfl, rfl⟩, by decide⟩

theorem test_witness_RateInput_set : busy.Ready ∧ busy.rate.k8 = false ∧ rating.rate.k8 = true
    ∧ busy.lines[(7 : Fin 8)].config.function = .input
    ∧ (after (.setLine 1 (lineArgs 7 1)) busy).lines[(7 : Fin 8)].config.function ≠ .input
    ∧ 8 ≤ (14 : BitVec 4).toNat ∧ (14 : BitVec 4) ≠ 15 := ⟨⟨rfl, rfl, rfl⟩, by decide⟩

theorem test_witness_InterruptLinesFollowTheLatch : busy.resetLow = false
    ∧ busy.events[EventKind.paneStale.index].enabled = true ∧ busy.events[EventKind.paneStale.index].pending = true
    ∧ busy.events[EventKind.paneStale.index].urgent = true ∧ busy.levelHolds EventKind.paneStale.index = true := by decide

theorem test_witness_PinResetGivesTheResetValues : low.resetLow = true ∧ busy.resetLow = false := by decide

/-- SET_EVENTS, ACK_EVENTS and SILENCE_ALERT on the busy part: PANE_STALE's condition holds, SCAN_STALL's and CLOCK_LOST's do not. -/
theorem test_witness_SetEvents_AckEvents_Silence : busy.Ready ∧ busy.scan.staleShown = true ∧ busy.scan.scanStall = false
    ∧ busy.time.lost = false ∧ busy.time.wasLost = true ∧ (0x0001 : BitVec 14).getLsbD 0 = true
    ∧ (0x0001 : BitVec 14).getLsbD 13 = false ∧ (0x2000 : BitVec 14).getLsbD 13 = true := ⟨⟨rfl, rfl, rfl⟩, by decide⟩

theorem test_witness_OccurrenceAndSetEventsCommute : busy.resetLow = false
    ∧ busy.events[EventKind.paneStale.index].enabled = true ∧ busy.events[EventKind.paneStale.index].urgent = true
    ∧ (1 : Fin 14) ≠ EventKind.paneStale.index := by decide

theorem test_witness_AlertOutputFollowsTheCauses : busy.resetLow = false
    ∧ (after (.setLine 1 (lineArgs 7 1)) busy).lines[(7 : Fin 8)].config.function = .alert
    ∧ (after (.setLine 1 (lineArgs 7 2)) busy).lines[(7 : Fin 8)].config.function = .alertInv
    ∧ (after (.setLine 1 (lineArgs 7 3)) busy).lines[(7 : Fin 8)].config.function = .lamp ∧ low.resetLow = true := by decide

/-- V5's trigger has just come to match, or has just ceased to: K0 follows L0. -/
def turning (high : Bool) (x : View) : State :=
  (busy.setVehicleLine 0 { busy.lines[(0 : Fin 8)] with debounced := high }).setViewRec 5 x

theorem test_witness_ConditionChangesReachTheViews :
    (turning true busy.views[(5 : Fin 8)]).viewMatches 5 ∧ busy.views[(5 : Fin 8)].inMatch = false
    ∧ ¬busy.viewMatches 5 ∧ (turning true busy.views[(5 : Fin 8)]).conditionChange.stack.map (·.view) = [5, 3, 0]
    ∧ (turning false ⟨some v5, true, .matching, false⟩).conditionChange.views[(5 : Fin 8)].trigger = .lingering 325
    ∧ (turning false ⟨some { v5 with linger := 0 }, true, .matching, false⟩).conditionChange.views[(5 : Fin 8)].trigger = .absent := by
  refine ⟨⟨by decide, v5, by decide⟩, by decide, ?_, by decide⟩
  rintro ⟨_, d, hd, _, h⟩
  cases hd
  exact absurd (h 0 (by decide)) (by decide)

/-- `n` commands wait. -/
def queued (n : Nat) : State := waitingFlip.withCommand { waitingFlip.command with queue := List.replicate n head }

theorem test_witness_RefusedQueuedAndLostCommands : busy.command.queue = [] ∧ (2 : BitVec 3) ≠ (Cmd.setHatch 0).length
    ∧ (0x99 : BitVec 8) ∉ catalogueCodes ∧ (queued 63).command.queue ≠ [] ∧ (queued 63).command.queue.length < 64
    ∧ 64 ≤ (queued 64).command.queue.length ∧ 5 ≤ (5 : BitVec 3).toNat ∧ readFirst.link.sysPort ≠ [] := by decide

/-- A command of unknown code behind others, before a full queue, and with no declared length. -/
theorem test_witness_RefusedQueuedAndLostCommands_unknown :
    ((after (.unknownCodeCommand 2 0x99 5) (queued 1)).command.queue.map (·.words)) = [head.words, [0x9940000000000005, 0]]
    ∧ (after (.unknownCodeCommand 1 0x99 0) (queued 64)).command.lossCause = some .queueFull
    ∧ (after (.unknownCodeCommand 0 0x99 0) busy).command.lossCause = some .badLength := by decide

/-- Words whose reserved bits are all set: SET_HATCH, SET_RATE, and a code outside the catalogue. -/
theorem test_witness_CommandWordsRoundTrip_reserved : decodeCommand [0x453FFFFFFF123456] = some (.setHatch 0x123456)
    ∧ decodeCommand [0x513FFFFFFFFF07F2] = some (.setRate 2 7) ∧ decodeCommand [0x993FFFFFFFFFFFFF] = none
    ∧ headerLength 0x453FFFFFFF123456 = 1 ∧ (1 : BitVec 3) ≠ (Cmd.setPane paneEx).length := by decide

/-! ### A state that meets every predicate the steps keep -/

/-- Two optional extents apart, as data. -/
theorem apart_of_no_overlap (e f : Option Extent) (h : (e.bind fun x => f.map fun y => x.overlaps y) ≠ some true) : apart e f := by
  cases e <;> cases f <;> simp_all [apart]

/-- An optional extent within the address space, as data. -/
theorem within_of_no_wrap (e : Option Extent) (h : (e.map (·.wraps)) ≠ some true) : within e := by
  cases e <;> simp_all [within]

/-- The busy part with an event that waits. -/
def inStep : State := busy.withPending [.setHatch 1 0x010203]

theorem test_inStep_steps : ∃ t, step inStep = .next t := ⟨_, rfl⟩

theorem test_witness_StepKeepsTheLatch : inStep.LatchOk ∧ inStep.TimeOk := by
  unfold State.LatchOk State.TimeOk; decide

/-- RESET_N is low, L0's pin is high, and the step is a response offered. -/
theorem test_witness_StepKeepsTheLatch_low :
    ((after (.lineLevelChange 0 ⟨true, .driven⟩) low).withPending [.readResponse (some responseEx)]).ResetOk :=
  fun _ => ⟨_, rfl⟩

theorem test_witness_StepKeepsTheViewStack : inStep.ArbiterOk := by
  refine ⟨⟨⟨by decide, trivial⟩, by decide⟩, ?_, ?_⟩
  · unfold State.RequestsOk; decide
  · unfold State.MatchesOk; decide

theorem test_witness_StepKeepsLinesAndAlert : inStep.LinesOk ∧ inStep.AlertOk := by
  refine ⟨⟨fun n => ?_, ?_⟩, ?_⟩
  · unfold State.LineOk; revert n; decide
  · unfold State.RateOk; decide
  · unfold State.AlertOk; decide

theorem test_witness_StepKeepsWindowsAndCameras : inStep.WindowsOk ∧ inStep.CamerasOk := by
  constructor
  · refine ⟨apart_of_no_overlap _ _ (by decide), within_of_no_wrap _ (by decide), fun c => ⟨?_, ?_, ?_, fun d hd => ?_⟩⟩
    · exact apart_of_no_overlap _ _ ((by decide : ∀ c : Fin 6,
        ((some inStep.pageExtent).bind fun x => (inStep.captureExtent c).map fun y => x.overlaps y) ≠ some true) c)
    · exact apart_of_no_overlap _ _ ((by decide : ∀ c : Fin 6,
        (inStep.scanExtent.bind fun x => (inStep.captureExtent c).map fun y => x.overlaps y) ≠ some true) c)
    · exact within_of_no_wrap _ ((by decide : ∀ c : Fin 6, ((inStep.captureExtent c).map (·.wraps)) ≠ some true) c)
    · exact apart_of_no_overlap _ _ ((by decide : ∀ c d : Fin 6, c ≠ d →
        ((inStep.captureExtent c).bind fun x => (inStep.captureExtent d).map fun y => x.overlaps y) ≠ some true) c d hd)
  · intro c r h
    have hr : r = c1 ∨ r = c3 := by
      revert h; revert c
      intro c
      match c with
      | 0 => exact fun h => by cases h
      | 1 => exact fun h => Or.inl (Option.some.inj h).symm
      | 2 => exact fun h => by cases h
      | 3 => exact fun h => Or.inr (Option.some.inj h).symm
      | 4 => exact fun h => by cases h
      | 5 => exact fun h => by cases h
    rcases hr with rfl | rfl
    · exact test_c1_is_in_order
    · exact ⟨by decide, by decide, by decide, by rfl, by decide, by decide, by decide⟩

theorem test_witness_StepKeepsTheBanks : inStep.BanksOk := by
  have few : ∀ l : List Span, l.length ≤ 24 → ∀ n : Nat, l.countP (fun x => x.line = n) ≤ 24 :=
    fun l h n => Nat.le_trans List.countP_le_length h
  refine ⟨⟨by decide, by decide, by decide, few _ (by decide), by unfold Span.Ok; decide⟩,
    ⟨by decide, by decide, by decide, few _ (by decide), by unfold Span.Ok; decide⟩, trivial⟩

theorem test_witness_StepKeepsTheFlow : inStep.FlowOk := by
  refine ⟨⟨by decide, by unfold Entry.Ok; decide, ?_, fun d h => by cases h⟩, ?_, fun d h => ?_, ?_, fun e t h => by cases h⟩
  · intro e he k hk
    have : e = entryEx := List.mem_singleton.mp he
    subst this
    cases hk
    rfl
  · unfold State.ScanOk; decide
  · cases h; decide
  · unfold State.TimedOk; decide

theorem test_witness_StepKeepsPanesAndQueue : inStep.PanesOk ∧ inStep.QueueOk := by
  refine ⟨⟨fun p x h => ?_, fun v d h => ?_, by decide⟩, ⟨by decide, by decide, by decide, by decide, by decide, by decide,
    by decide, fun a h => by cases h⟩⟩
  · have k : ∀ p : Fin 16, (inStep.panes[p].map fun x => x.geo.accepted) ≠ some false := by decide
    have := k p
    rw [h] at this
    simpa using this
  · have k : ∀ v : Fin 8, (inStep.views[v].definition.map fun d => decide (d.panes.length ≤ 4)) ≠ some false := by decide
    have := k v
    rw [h] at this
    simpa using this

theorem test_witness_RunAndBypass_bypass : busy.Ready ∧ busy.AlertOk := ⟨⟨rfl, rfl, rfl⟩, test_witness_StepKeepsLinesAndAlert.2⟩

theorem test_witness_SoftResetGivesTheResetValues : busy.Ready ∧ busy.ScanOk := ⟨⟨rfl, rfl, rfl⟩, test_witness_StepKeepsTheFlow.2.1⟩

/-- The View Arbiter in order with V5 on top, held by its command or by its linger alone. -/
theorem test_witness_LingerExpiry_and_ReleaseView_of_the_top : (commanded overV3).ArbiterOk ∧ (at_ (lingering false overV3) 40).ArbiterOk := by
  constructor
  · refine ⟨⟨⟨by decide, by decide, trivial⟩, by decide⟩, ?_, ?_⟩
    · unfold State.RequestsOk; decide
    · unfold State.MatchesOk; decide
  · refine ⟨⟨⟨by decide, by decide, trivial⟩, by decide⟩, ?_, ?_⟩
    · unfold State.RequestsOk; decide
    · unfold State.MatchesOk; decide

theorem test_witness_TruncateStackKeepsTheOldest : (commanded overV3).Ready ∧ (commanded overV3).ArbiterOk
    ∧ 1 ≤ (1 : BitVec 4).toNat ∧ (8 : BitVec 4).toNat ≤ 8 ∧ 8 < (9 : BitVec 4).toNat :=
  ⟨⟨rfl, rfl, rfl⟩, test_witness_LingerExpiry_and_ReleaseView_of_the_top.1, by decide⟩

end Sys2Proof.Tests
end

section
/-! SUPPORT. SET_PANE and CLEAR_PANE (R65 to R68): what the words of their rows spell, a command that completes at once on a free Command Unit, the argument checks of the two commands, and O41. -/

namespace Sys2Proof.Panes

open Sys2Proof.Machine

/-! ### Flags of a word, and the header of an encoded command -/

/-- A flag is the one-bit field at its place. -/
theorem flag_eq_getLsbD_field (w : Word) (lo : Nat) : flag w lo = (field w lo 1).getLsbD 0 := by
  simp [flag, field]

/-- A flag of a combination is the disjunction of the flags. -/
theorem flag_or (a b : Word) (lo : Nat) : flag (a ||| b) lo = (flag a lo || flag b lo) := by
  simp [flag]

/-- A flag reads back from where it was put. -/
theorem flag_putFlag (b : Bool) (lo : Nat) (h : lo + 1 ≤ 64) : flag (putFlag b lo) lo = b := by
  rw [flag_eq_getLsbD_field, putFlag, field_put _ _ h]
  simp

/-- A flag is clear in a word that holds a field apart from it. -/
theorem flag_put_apart {n : Nat} (v : BitVec n) (lo at_ : Nat) (h : lo + n ≤ at_ ∨ at_ + 1 ≤ lo) :
    flag (put v lo) at_ = false := by
  rw [flag_eq_getLsbD_field, field_put_apart _ _ _ h]
  rfl

/-- A field is zero in a word that holds a flag apart from it. -/
theorem field_putFlag_apart {m : Nat} (b : Bool) (lo at_ : Nat) (h : lo + 1 ≤ at_ ∨ at_ + m ≤ lo) :
    field (putFlag b lo) at_ m = 0 :=
  field_put_apart _ _ _ h

/-- No command has an argument in the bits of the code and the declared length (R186). -/
theorem field_headerArgs (c : Cmd) (lo n : Nat) (h : 53 ≤ lo) : field c.headerArgs lo n = 0 := by
  have zero : field 0#64 lo n = 0#n := by simp [field]
  cases c <;> simp (disch := omega) [Cmd.headerArgs, field_or, field_put_apart, field_putFlag_apart, zero]

/-- The header of an encoded command has the command's code (R186). -/
theorem headerCode_encodeCommand (len : BitVec 3) (c : Cmd) :
    headerCode (wordAt (encodeCommand len c) 0) = c.code :=
  headerCode_header _ _ _ (field_headerArgs c 56 8 (by omega))

/-- The header of an encoded command declares the length asked for (R186). -/
theorem headerLength_encodeCommand (len : BitVec 3) (c : Cmd) :
    headerLength (wordAt (encodeCommand len c) 0) = len :=
  headerLength_header _ _ _ (field_headerArgs c 53 3 (by omega))

/-- A field among the arguments of a header is that of the arguments alone (R186). -/
theorem field_header (code : BitVec 8) (len : BitVec 3) (args : Word) (lo n : Nat) (h : lo + n ≤ 53) :
    field (header code len args) lo n = field args lo n := by
  unfold header
  rw [field_or, field_or, field_put_apart _ _ _ (by omega), field_put_apart _ _ _ (by omega)]
  simp

/-- A flag among the arguments of a header is that of the arguments alone (R186). -/
theorem flag_header (code : BitVec 8) (len : BitVec 3) (args : Word) (lo : Nat) (h : lo + 1 ≤ 53) :
    flag (header code len args) lo = flag args lo := by
  rw [flag_eq_getLsbD_field, field_header _ _ _ _ _ h, ← flag_eq_getLsbD_field]

/-! ### The words of the two pane commands (section 10.2) -/

/-- SET_PANE's fields read back from its words. -/
theorem decodePaneArgs_encodeCommand (a : PaneArgs) : decodePaneArgs (encodeCommand 2 (.setPane a)) = a := by
  have w0 : wordAt (encodeCommand 2 (.setPane a)) 0 = header 0x20 2 (Cmd.setPane a).headerArgs := rfl
  have w1 : wordAt (encodeCommand 2 (.setPane a)) 1
      = put a.width 0 ||| put a.height 16 ||| put a.srcX 32 ||| put a.srcY 48 := rfl
  unfold decodePaneArgs
  rw [w0, w1]
  simp (disch := omega) [field_header, flag_header, Cmd.headerArgs, field_or, flag_or, field_put, field_put_apart,
    field_putFlag_apart, flag_putFlag, flag_put_apart]

/-- SET_PANE's words decode to it (R186, R187). -/
theorem decodeCommand_setPane (a : PaneArgs) : decodeCommand (encodeCommand 2 (.setPane a)) = some (.setPane a) := by
  unfold decodeCommand
  rw [headerCode_encodeCommand]
  show some (Cmd.setPane (decodePaneArgs (encodeCommand 2 (.setPane a)))) = _
  rw [decodePaneArgs_encodeCommand]

/-- CLEAR_PANE's word decodes to it (R186, R187). -/
theorem decodeCommand_clearPane (x : BitVec 5) : decodeCommand (encodeCommand 1 (.clearPane x)) = some (.clearPane x) := by
  have pane : field (wordAt (encodeCommand 1 (.clearPane x)) 0) 0 5 = x :=
    (field_header _ _ _ 0 5 (by omega)).trans (field_put x 0 (by omega))
  unfold decodeCommand
  rw [headerCode_encodeCommand]
  show some (Cmd.clearPane (field (wordAt (encodeCommand 1 (.clearPane x)) 0) 0 5)) = _
  rw [pane]

/-! ### A command that completes at once on a free Command Unit (R154 to R159) -/

/-- A command framed by its own length starts as itself (R158). -/
theorem startWords_encodeCommand (s : State) (c : Cmd)
    (spelt : decodeCommand (encodeCommand c.length c) = some c) :
    s.startWords (encodeCommand c.length c) = s.start c := by
  unfold State.startWords
  rw [spelt]
  dsimp only
  rw [if_pos (headerLength_encodeCommand _ _)]

/-- A complete command on a free Command Unit is alone in the queue and starts there (R154, R156). -/
theorem handedOver_of_free {s : State} (free : s.command.queue = []) (ws : List Word) :
    s.handedOver ws = (s.started ws).thenRun [{ seq := s.command.seq + 1, words := ws }] := by
  unfold State.handedOver State.started
  simp only [free, List.length_nil, List.nil_append, if_true]
  rfl

/-- That command completed and off the queue again leaves the completion record of the statements (R159). -/
theorem recorded_started (t : State) (ws : List Word) (r : Result) (free : t.command.queue = []) :
    ((t.started ws).recorded { seq := t.command.seq + 1, words := ws } r).thenRun [] = t.finished r := by
  unfold State.thenRun State.recorded State.finished State.started
  dsimp only
  split <;> simp [State.withCommand, State.raise, State.withEvents, free]

/-- A complete command on a free Command Unit whose start completes at once. Here `t` is the state with the start's effect alone, which touches nothing of the Command Unit. -/
theorem handedOver_of_startWords {s t : State} {ws : List Word} {r : Result} (free : s.command.queue = [])
    (unit : t.command = s.command) (starts : (s.started ws).startWords ws = (some r, t.started ws)) :
    s.handedOver ws = t.finished r := by
  have alone : (s.started ws).withCommand { (s.started ws).command with
      queue := [{ seq := s.command.seq + 1, words := ws }] } = s.started ws := rfl
  rw [handedOver_of_free free, State.thenRun, alone, starts, ← unit]
  exact recorded_started t ws r (unit ▸ free)

/-- A command row of its own length on a free Command Unit whose start completes at once with the effect `t` (R10, R154 to R159). -/
theorem submit_of_start {s t : State} {c : Cmd} {r : Result} (h : s.Ready)
    (spelt : decodeCommand (encodeCommand c.length c) = some c) (unit : t.command = s.command)
    (starts : (s.started (encodeCommand c.length c)).start c = (some r, t.started (encodeCommand c.length c))) :
    s.submit c.length (encodeCommand c.length c) = .next (t.finished r) := by
  have framed : framedLength c.length = true := by cases c <;> rfl
  have ⟨_, free, _⟩ := h
  have runs : s.handedOver (encodeCommand c.length c) = t.finished r :=
    handedOver_of_startWords free unit ((startWords_encodeCommand _ c spelt).trans starts)
  rw [State.submit_next, h.not_blocked, framed, State.commandComplete_eq_handedOver, runs]
  rfl

/-! ### The argument checks (R65, R66, R68) -/

/-- A number in range is found as that index. -/
theorem below_of_val_eq {n v : Nat} (i : Fin n) (h : i.val = v) : below n v = some i := by
  subst h
  simp [below]

/-- A number out of range is none. -/
theorem below_of_le {n v : Nat} (h : n ≤ v) : below n v = none := by
  simp [below, h]

/-- The ranges of R65 and the limits of R66. -/
theorem accepted_iff (g : PaneGeo) : g.accepted = true ↔
    g.left % 2 = 0 ∧ g.left ≤ 2046 ∧ g.top ≤ 1079 ∧ g.width % 2 = 0 ∧ 2 ≤ g.width ∧ g.width ≤ 2048
      ∧ 1 ≤ g.height ∧ g.height ≤ 1080 ∧ g.srcX % 2 = 0 ∧ g.srcX ≤ 2046 ∧ g.srcY ≤ 1079
      ∧ g.left + g.width ≤ 2048 ∧ g.srcX + g.width ≤ 2048 ∧ g.top + g.height ≤ 1080 ∧ g.srcY + g.height ≤ 1080 := by
  simp only [PaneGeo.accepted, Bool.and_eq_true, decide_eq_true_eq, and_assoc]

/-- SET_PANE's arguments in range give the record they describe (R66). -/
theorem paneOperand_of_accepted {a : PaneArgs} {p : Fin 16} {c : Fin 6} (hp : p.val = a.pane.toNat)
    (hc : c.val = a.camera.toNat) (hg : (paneGeoOf a).accepted = true) :
    paneOperand a = some (p, { camera := c, geo := paneGeoOf a }) := by
  simp [paneOperand, below_of_val_eq p hp, below_of_val_eq c hc, hg]

/-- SET_PANE's arguments out of range give none (R65, R66). -/
theorem paneOperand_eq_none {a : PaneArgs}
    (h : ¬(a.pane.toNat ≤ 15 ∧ a.camera.toNat ≤ 5 ∧ (paneGeoOf a).accepted = true)) : paneOperand a = none := by
  by_cases hp : a.pane.toNat ≤ 15
  · by_cases hc : a.camera.toNat ≤ 5
    · have hg : ¬(paneGeoOf a).accepted = true := fun hg => h ⟨hp, hc, hg⟩
      simp [paneOperand, below, Nat.lt_succ_of_le hp, Nat.lt_succ_of_le hc, hg]
    · rw [paneOperand, below_of_le (n := 6) (by omega)]
      cases below 16 a.pane.toNat <;> rfl
  · rw [paneOperand, below_of_le (n := 16) (by omega)]

/-! ### SET_PANE and CLEAR_PANE -/

/-- SET_PANE refused for its arguments (R65, R66). -/
theorem exec_setPane_refused {s : State} (h : s.Ready) {a : PaneArgs} (ha : paneOperand a = none) :
    exec (.setPane 2 a) s = .next (s.finished .badArgument) := by
  refine submit_of_start (c := .setPane a) h (decodeCommand_setPane a) rfl ?_
  simp only [State.start, State.startSetPane, ha]
  rfl

/-- SET_PANE carried out (R66, R67). -/
theorem exec_setPane_done {s : State} (h : s.Ready) {a : PaneArgs} {p : Fin 16} {x : PaneRec}
    (ha : paneOperand a = some (p, x)) : exec (.setPane 2 a) s = .next ((s.setPaneRec p (some x)).finished .ok) := by
  refine submit_of_start (c := .setPane a) h (decodeCommand_setPane a) rfl ?_
  simp only [State.start, State.startSetPane, ha]
  rfl

/-- CLEAR_PANE refused for its argument (R68). -/
theorem exec_clearPane_refused {s : State} (h : s.Ready) {x : BitVec 5} (hx : 15 < x.toNat) :
    exec (.clearPane 1 x) s = .next (s.finished .badArgument) := by
  refine submit_of_start (c := .clearPane x) h (decodeCommand_clearPane x) rfl ?_
  simp only [State.start, State.startClearPane, below_of_le (n := 16) hx]
  rfl

/-- CLEAR_PANE carried out (R68). -/
theorem exec_clearPane_done {s : State} (h : s.Ready) {x : BitVec 5} {p : Fin 16} (hp : p.val = x.toNat) :
    exec (.clearPane 1 x) s = .next ((s.setPaneRec p none).finished .ok) := by
  refine submit_of_start (c := .clearPane x) h (decodeCommand_clearPane x) rfl ?_
  simp only [State.start, State.startClearPane, below_of_val_eq p hp]
  rfl

/-- Settles O41: each command runs through the free Command Unit to its own argument check, which accepts exactly the ranges stated. -/
theorem paneDefinitions : Obligations.PaneDefinitions := by
  intro s h
  refine ⟨fun a => ⟨fun bad => ?_, fun good p c hp hc => ?_⟩, fun x => ⟨exec_clearPane_refused h, fun p hp => ?_⟩⟩
  · refine exec_setPane_refused h (paneOperand_eq_none ?_)
    rwa [accepted_iff]
  · obtain ⟨_, _, inRange⟩ := good
    exact exec_setPane_done h (paneOperand_of_accepted hp hc ((accepted_iff _).mpr inRange))
  · exact exec_clearPane_done h hp

end Sys2Proof.Panes
end

section
/-! SUPPORT. The span banks (R83 to R92): the key order, what insertion and the content checks say of a bank, and that a completed edit keeps both banks in order. -/

namespace Sys2Proof.SpanBanks

open Sys2Proof.Machine

/-! ### Keys and columns (R83, R84) -/

theorem hasKey_iff (y : Span) (layer : Fin 8) (line x0 : Nat) :
    y.hasKey layer line x0 = true ↔ y.line = line ∧ y.x0 = x0 ∧ y.layer = layer := by
  simp only [Span.hasKey, Bool.and_eq_true, decide_eq_true_eq]
  exact ⟨fun ⟨⟨layer, line⟩, x0⟩ => ⟨line, x0, layer⟩, fun ⟨line, x0, layer⟩ => ⟨⟨layer, line⟩, x0⟩⟩

theorem clashes_iff (y : Span) (layer : Fin 8) (line x0 x1 : Nat) :
    y.clashes layer line x0 x1 = true ↔ y.layer = layer ∧ y.line = line ∧ y.x0 ≤ x1 ∧ x0 ≤ y.x1 := by
  simp only [Span.clashes, Bool.and_eq_true, decide_eq_true_eq, and_assoc]

/-- Of two spans that share no column each says so of the other. -/
theorem clashes_symm {x y : Span} (h : y.clashes x.layer x.line x.x0 x.x1 = false) :
    x.clashes y.layer y.line y.x0 y.x1 = false := by
  rw [Bool.eq_false_iff, ne_eq, clashes_iff] at h ⊢
  exact fun ⟨layer, line, left, right⟩ => h ⟨layer.symm, line.symm, right, left⟩

theorem before_iff (x y : Span) : x.before y = true ↔
    x.line < y.line ∨ x.line = y.line ∧ (x.x0 < y.x0 ∨ x.x0 = y.x0 ∧ x.layer < y.layer) := by
  simp only [Span.before, Bool.or_eq_true, Bool.and_eq_true, decide_eq_true_eq]

theorem before_trans {x y z : Span} (h : x.before y = true) (k : y.before z = true) : x.before z = true := by
  rw [before_iff] at h k ⊢
  omega

/-- Spans of different keys are ordered one way or the other. -/
theorem before_of_not_before {x y : Span} (h : ¬x.before y = true) (key : y.hasKey x.layer x.line x.x0 = false) :
    y.before x = true := by
  rw [Bool.eq_false_iff, ne_eq, hasKey_iff] at key
  rw [before_iff] at h ⊢
  omega

/-! ### Insertion (R84) -/

theorem insertSpan_perm (x : Span) (l : List Span) : (insertSpan x l).Perm (x :: l) := by
  induction l with
  | nil => exact List.Perm.refl _
  | cons y rest ih =>
    unfold insertSpan
    split
    · exact List.Perm.refl _
    · exact (ih.cons y).trans (List.Perm.swap x y rest)

theorem mem_insertSpan (x y : Span) (l : List Span) : y ∈ insertSpan x l ↔ y = x ∨ y ∈ l := by
  rw [(insertSpan_perm x l).mem_iff, List.mem_cons]

/-- A span of a new key joins a bank in key order at its place. -/
theorem insertSpan_ordered {x : Span} {l : List Span} (order : l.Pairwise fun y z => y.before z = true)
    (key : ∀ y ∈ l, y.hasKey x.layer x.line x.x0 = false) :
    (insertSpan x l).Pairwise fun y z => y.before z = true := by
  induction l with
  | nil => exact List.pairwise_singleton _ _
  | cons y rest ih =>
    obtain ⟨first, order'⟩ := List.pairwise_cons.mp order
    unfold insertSpan
    split
    · next h =>
      refine List.pairwise_cons.mpr ⟨fun z hz => ?_, order⟩
      rcases List.mem_cons.mp hz with rfl | hz
      · exact h
      · exact before_trans h (first z hz)
    · next h =>
      refine List.pairwise_cons.mpr ⟨fun z hz => ?_, ih order' fun z hz => key z (List.mem_cons_of_mem _ hz)⟩
      rcases (mem_insertSpan x z rest).mp hz with rfl | hz
      · exact before_of_not_before h (key y List.mem_cons_self)
      · exact first z hz

/-! ### The content checks (R89, R90) -/

/-- The checks of ADD_SPAN, in the order they are made (R89). -/
theorem contentCheck_add (x : Span) (bank : List Span) : contentCheck (.add x) bank =
    if bank.any fun y => y.hasKey x.layer x.line x.x0 then some .duplicate
    else if bank.any fun y => y.clashes x.layer x.line x.x0 x.x1 then some .overlap
    else if 24 ≤ bank.countP fun y => y.line = x.line then some .lineFull
    else if 2048 ≤ bank.length then some .full
    else none := rfl

/-- A span that passed its content checks has a new key and free columns, and its line and the bank have room (R89). -/
theorem room_of_contentCheck {x : Span} {bank : List Span} (check : contentCheck (.add x) bank = none) :
    (∀ y ∈ bank, y.hasKey x.layer x.line x.x0 = false) ∧ (∀ y ∈ bank, y.clashes x.layer x.line x.x0 x.x1 = false)
      ∧ bank.countP (fun y => y.line = x.line) < 24 ∧ bank.length < 2048 := by
  rw [contentCheck_add] at check
  split at check
  · cases check
  · next sameKey =>
    split at check
    · cases check
    · next shares =>
      split at check
      · cases check
      · next lineFull =>
        split at check
        · cases check
        · next full =>
          simp only [List.any_eq_true, not_exists, not_and, Bool.not_eq_true] at sameKey shares
          exact ⟨sameKey, shares, Nat.lt_of_not_le lineFull, Nat.lt_of_not_le full⟩

/-! ### Edits keep a bank in order (R84, R89 to R92) -/

theorem bankOk_nil : BankOk [] := ⟨by simp, .nil, .nil, by simp, by simp⟩

/-- A bank from which spans have left is in order. -/
theorem bankOk_filter {l : List Span} (ok : BankOk l) (p : Span → Bool) : BankOk (l.filter p) := by
  obtain ⟨size, order, columns, lines, spans⟩ := ok
  have sub : (l.filter p).Sublist l := List.filter_sublist
  exact ⟨Nat.le_trans sub.length_le size, order.sublist sub, columns.sublist sub,
    fun n => Nat.le_trans sub.countP_le (lines n), fun x hx => spans x (sub.subset hx)⟩

/-- A bank that a span joined, its arguments and content checked, is in order. -/
theorem bankOk_insertSpan {x : Span} {l : List Span} (ok : BankOk l) (args : x.Ok)
    (check : contentCheck (.add x) l = none) : BankOk (insertSpan x l) := by
  obtain ⟨size, order, columns, lines, spans⟩ := ok
  obtain ⟨key, free, lineRoom, room⟩ := room_of_contentCheck check
  have perm := insertSpan_perm x l
  refine ⟨?_, insertSpan_ordered order key, ?_, fun n => ?_, fun y hy => ?_⟩
  · rw [perm.length_eq]
    exact room
  · rw [perm.pairwise_iff clashes_symm]
    exact List.pairwise_cons.mpr ⟨free, columns⟩
  · rw [perm.countP_eq, List.countP_cons]
    by_cases h : x.line = n
    · rw [if_pos (decide_eq_true h), ← h]
      exact lineRoom
    · rw [if_neg (mt of_decide_eq_true h)]
      exact lines n
  · rcases (mem_insertSpan x y l).mp hy with rfl | hy
    · exact args
    · exact spans y hy

/-- The target after an edit that was checked is in order (R89 to R92). -/
theorem bankOk_edited {o : Overlay} {e : Edit} {target : Bank} (banks : ∀ bank, BankOk (o.spans bank))
    (args : ∀ x, e = .add x → x.Ok) (check : contentCheck e (o.spans target) = none) : BankOk (o.edited e target) := by
  cases e with
  | add x => exact bankOk_insertSpan (banks target) (args x rfl) check
  | remove layer line x0 => exact bankOk_filter (banks target) _
  | clear => exact bankOk_nil
  | copy => exact banks target.other

/-! ### What an overlay in order keeps -/

/-- Both banks of an overlay in order, and the edit it carries checked: State.BanksOk of the overlay alone. -/
def InOrder (o : Overlay) : Prop := BankOk o.bankA ∧ BankOk o.bankB ∧ o.EngineOk

theorem banksOk_iff (s : State) : s.BanksOk ↔ InOrder s.overlay := Iff.rfl

theorem InOrder.spans {o : Overlay} (ok : InOrder o) (bank : Bank) : BankOk (o.spans bank) := by
  obtain ⟨okA, okB, _⟩ := ok
  cases bank
  · exact okA
  · exact okB

/-- Contents and edit kept, the rest of the compositor plays no part. -/
theorem InOrder.of_eq {o o' : Overlay} (ok : InOrder o) (bankA : o'.bankA = o.bankA) (bankB : o'.bankB = o.bankB)
    (engine : o'.engine = o.engine) : InOrder o' := by
  cases o
  cases o'
  subst bankA bankB engine
  exact ok

/-- Another edit carried over the same contents is in order when it is checked. -/
theorem InOrder.withEngine {o : Overlay} (ok : InOrder o) (g : Engine) (checked : ({ o with engine := g } : Overlay).EngineOk) :
    InOrder { o with engine := g } := by
  obtain ⟨okA, okB, _⟩ := ok
  exact ⟨okA, okB, checked⟩

/-- The contents of one bank replaced by others in order, no edit carried (R88). -/
theorem InOrder.replaced {o : Overlay} (ok : InOrder o) (target : Bank) {l : List Span} (new : BankOk l) :
    InOrder { o.setSpans target l with engine := .idle } := by
  obtain ⟨okA, okB, _⟩ := ok
  cases target
  · exact ⟨new, okB, trivial⟩
  · exact ⟨okA, new, trivial⟩

theorem inOrder_reset : InOrder State.reset.overlay := ⟨bankOk_nil, bankOk_nil, trivial⟩

end Sys2Proof.SpanBanks
end

section
/-! SUPPORT. O58: every event keeps both span banks and the edit carried in order (R83 to R88). For each operation that can reach the compositor, what it leaves there; then the commands, the chain behind them, the link, the timers and the pins. -/

namespace Sys2Proof.SpanBanks

open Sys2Proof.Machine

/-- An operation whose frame leaves the compositor out keeps it in order. -/
theorem InOrder.of_frame {s t u : State} (ok : InOrder s.overlay) (frame : t = u) (kept : u.overlay = s.overlay) :
    InOrder t.overlay := by
  rwa [frame, kept]

theorem lineFrame_overlay (s t : State) : (s.lineFrame t).overlay = s.overlay := rfl

theorem captureFrame_overlay (s t : State) : (s.captureFrame t).overlay = s.overlay := rfl

theorem scanFrame_overlay (s t : State) : (s.scanFrame t).overlay = s.overlay := rfl

/-! ### The edit engine and the flip (R86 to R95) -/

/-- The edit engine idle is in order over any contents in order. -/
theorem setEngine_idle_inOrder {s : State} (ok : InOrder s.overlay) : InOrder (s.setEngine .idle).overlay :=
  ok.withEngine _ trivial

theorem beginEdit_inOrder {s : State} (ok : InOrder s.overlay) {e : Edit} (args : ∀ x, e = .add x → x.Ok) (target : Bank) :
    InOrder (s.beginEdit e target).2.overlay := by
  unfold State.beginEdit
  split
  · exact setEngine_idle_inOrder ok
  · next check => exact ok.withEngine _ ⟨args, check⟩

theorem startEdit_inOrder {s : State} (ok : InOrder s.overlay) {e : Edit} (args : ∀ x, e = .add x → x.Ok) :
    InOrder (s.startEdit e).2.overlay := by
  unfold State.startEdit
  dsimp only
  split
  · exact ok.withEngine _ args
  · exact beginEdit_inOrder ok args _

/-- The completion of an edit that passed its checks (R88). -/
theorem finishEdit_inOrder {s : State} (ok : InOrder s.overlay) {e : Edit} {target : Bank}
    (carried : s.overlay.engine = .editing e target) : InOrder (s.finishEdit e target).overlay := by
  have ⟨_, _, engine⟩ := ok
  unfold Overlay.EngineOk at engine
  rw [carried] at engine
  obtain ⟨args, check⟩ := engine
  exact ok.replaced target (bankOk_edited ok.spans args check)

theorem flip_inOrder {s : State} (ok : InOrder s.overlay) : InOrder s.flip.overlay := ok.of_eq rfl rfl rfl

/-! ### The commands (R158) -/

/-- ADD_SPAN's arguments, when they are accepted, are a span within its ranges (R83, R89). -/
theorem spanOperand_ok {a : SpanArgs} {x : Span} (h : spanOperand a = some x) : x.Ok := by
  unfold spanOperand at h
  split at h
  · cases h
  · split at h
    · next range =>
      simp only [Bool.and_eq_true, decide_eq_true_eq] at range
      obtain ⟨line, columns⟩ := range
      cases h
      exact ⟨line, columns, Nat.le_of_lt_succ a.x1.isLt⟩
    · cases h

/-- REMOVE_SPAN's arguments give no span to add. -/
theorem keyOperand_ne_add {a : KeyArgs} {e : Edit} (h : keyOperand a = some e) (x : Span) : e ≠ .add x := by
  unfold keyOperand at h
  split at h
  · cases h
    exact nofun
  · cases h

@[simp] theorem done_snd (s : State) : s.done.2 = s := rfl

@[simp] theorem refuse_snd (s : State) (r : Result) : (s.refuse r).2 = s := rfl

@[simp] theorem leaveRun_overlay (s : State) : s.leaveRun.overlay = s.overlay := by rw [s.leaveRun_frame]

@[simp] theorem redefine_overlay (s : State) (c : Fin 6) (r : Option CaptureRec) : (s.redefine c r).overlay = s.overlay := by
  rw [s.redefine_frame c r, captureFrame_overlay]

@[simp] theorem setCommandHold_overlay (s : State) (v : Fin 8) (b : Bool) : (s.setCommandHold v b).overlay = s.overlay := by
  rw [s.setCommandHold_frame v b]

@[simp] theorem truncate_overlay (s : State) (n : Nat) : (s.truncate n).overlay = s.overlay := by rw [s.truncate_frame n]

@[simp] theorem configureLine_overlay (s : State) (n : Fin 8) (c : LineConfig) : (s.configureLine n c).overlay = s.overlay := by
  rw [s.configureLine_frame n c, lineFrame_overlay]

@[simp] theorem configureRate_overlay (s : State) (source : Option (Fin 8)) (threshold : Nat) :
    (s.configureRate source threshold).overlay = s.overlay := by
  rw [s.configureRate_frame source threshold, lineFrame_overlay]

@[simp] theorem acknowledge_overlay (s : State) (m : BitVec 14) : (s.acknowledge m).overlay = s.overlay := by
  rw [s.acknowledge_frame m]

@[simp] theorem resetLines_overlay (s : State) : s.resetLines.overlay = s.overlay := by rw [s.resetLines_frame]

/-- SOFT_RESET leaves the compositor at its reset values (R107). -/
theorem startSoftReset_overlay (s : State) : s.startSoftReset.2.overlay = State.reset.overlay := by
  unfold State.startSoftReset State.resetEvents State.resetAlert State.resetOverlay
  rw [done_snd, State.withEvents_overlay, State.withAlert_overlay, resetLines_overlay, State.withOverlay_overlay]

/-- A command's own checks and effect, whatever they come to, keep the compositor in order. -/
theorem start_inOrder {s : State} (ok : InOrder s.overlay) (c : Cmd) : InOrder (s.start c).2.overlay := by
  cases c <;> dsimp only [State.start]
  case run =>
    unfold State.startRun State.enterRun
    repeat' split
    all_goals exact ok
  case bypass => simpa [State.startBypass] using ok
  case softReset =>
    rw [startSoftReset_overlay]
    exact inOrder_reset
  case setScan a =>
    unfold State.startSetScan
    repeat' split
    all_goals exact ok
  case setCapture a =>
    unfold State.startSetCapture
    repeat' split
    all_goals simpa using ok
  case clearCapture n =>
    unfold State.startClearCapture
    split <;> simpa using ok
  case setPane a => unfold State.startSetPane; split <;> exact ok
  case clearPane p => unfold State.startClearPane; split <;> exact ok
  case setView a =>
    unfold State.startSetView
    repeat' split
    all_goals exact ok
  case clearView v =>
    unfold State.startClearView
    repeat' split
    all_goals exact ok
  case requestView v =>
    unfold State.startRequestView
    repeat' split
    all_goals simpa using ok
  case releaseView v =>
    unfold State.startReleaseView
    split <;> simpa using ok
  case truncateStack d =>
    unfold State.startTruncateStack
    split <;> simpa using ok
  case addSpan a =>
    unfold State.startAddSpan
    split
    · exact ok
    · next h => exact startEdit_inOrder ok fun y e => by cases e; exact spanOperand_ok h
  case removeSpan a =>
    unfold State.startRemoveSpan
    split
    · exact ok
    · next h => exact startEdit_inOrder ok fun y e => absurd e (keyOperand_ne_add h y)
  case clearBank => exact startEdit_inOrder ok nofun
  case copyBank => exact startEdit_inOrder ok nofun
  case flipBank =>
    unfold State.startFlipBank State.startFlip
    split
    · exact ok.of_eq rfl rfl rfl
    · exact flip_inOrder ok
  case setHatch colour => exact ok.of_eq rfl rfl rfl
  case setLine a =>
    unfold State.startSetLine
    split <;> simpa using ok
  case setRate source threshold =>
    unfold State.startSetRate
    split <;> simpa using ok
  case setEvents e u => exact ok
  case ackEvents m => simpa [State.startAckEvents] using ok
  case silenceAlert => exact ok

theorem startWords_inOrder {s : State} (ok : InOrder s.overlay) (ws : List Word) : InOrder (s.startWords ws).2.overlay := by
  unfold State.startWords
  split
  · exact ok
  · split
    · exact start_inOrder ok _
    · exact ok

/-! ### The Command Unit (R150 to R159) -/

@[simp] theorem complete_overlay (s : State) (r : Result) : (s.complete r).overlay = s.overlay :=
  by rw [s.complete_frame r]

/-- The chain of starts and completions (R156). -/
theorem runChain_inOrder (n : Nat) {s : State} (ok : InOrder s.overlay) : InOrder (s.runChain n).overlay := by
  induction n generalizing s with
  | zero => exact ok
  | succ n ih =>
    unfold State.runChain
    split
    · exact ok
    · next q _ _ =>
      have started := startWords_inOrder ok q.words
      split
      · next t e => rwa [e] at started
      · next r t e =>
        rw [e] at started
        exact ih (by rwa [complete_overlay])

theorem startHead_inOrder {s : State} (ok : InOrder s.overlay) : InOrder s.startHead.overlay := runChain_inOrder _ ok

theorem completeAndGo_inOrder {s : State} (ok : InOrder s.overlay) (r : Result) : InOrder (s.completeAndGo r).overlay :=
  startHead_inOrder (by rwa [complete_overlay])

theorem commandComplete_inOrder {s : State} (ok : InOrder s.overlay) (ws : List Word) :
    InOrder (s.commandComplete ws).overlay := by
  unfold State.commandComplete
  split
  · exact ok
  · split
    · exact startHead_inOrder ok
    · exact ok

theorem takeHeader_inOrder {s : State} (ok : InOrder s.overlay) (n : Fin 64) (w : Word) :
    InOrder (s.takeHeader n w).overlay := by
  unfold State.takeHeader
  split
  case h_1 => exact commandComplete_inOrder ok _
  all_goals exact ok

theorem takeContinuation_inOrder {s : State} (ok : InOrder s.overlay) (a : Assembly) (n : Fin 64) (w : Word) :
    InOrder (s.takeContinuation a n w).overlay := by
  unfold State.takeContinuation
  dsimp only
  split
  · exact commandComplete_inOrder (s := s.setAssembly none) ok _
  · exact ok

/-- A SLOT beat at the Command Unit (R150 to R153). -/
theorem takeSlotBeat_inOrder {s : State} (ok : InOrder s.overlay) (n : Fin 64) (b : WriteBeat) :
    InOrder (s.takeSlotBeat n b).overlay := by
  unfold State.takeSlotBeat State.takeWord
  split
  · split
    · exact takeHeader_inOrder ok n _
    · split
      · exact takeContinuation_inOrder ok _ n _
      · exact takeHeader_inOrder (s := (s.setAssembly none).lose .outOfOrder) ok n _
  · exact ok

/-- The end of an edit's wait, refused or begun (R87). -/
theorem settleWait_inOrder {s : State} (ok : InOrder s.overlay) : InOrder s.settleWait.overlay := by
  unfold State.settleWait
  split
  · exact ok
  · exact ok
  · next e target carried =>
    have ⟨_, _, engine⟩ := ok
    unfold Overlay.EngineOk at engine
    rw [carried] at engine
    split
    · exact ok
    · have begun := beginEdit_inOrder ok engine target
      split
      · next r t h => rw [h] at begun; exact completeAndGo_inOrder begun r
      · next t h => rwa [h] at begun

/-- The completion of an edit with the commands behind it (R88, R156). -/
theorem completeEdit_inOrder {s : State} (ok : InOrder s.overlay) : InOrder s.completeEdit.overlay := by
  unfold State.completeEdit
  split
  · exact ok
  · exact ok
  · next carried => exact completeAndGo_inOrder (finishEdit_inOrder ok carried) .ok

theorem takeFlip_inOrder {s : State} (ok : InOrder s.overlay) : InOrder s.takeFlip.overlay := by
  unfold State.takeFlip
  rw [complete_overlay]
  exact flip_inOrder ok

theorem submit_inOrder {s t : State} (ok : InOrder s.overlay) {len : BitVec 3} {ws : List Word}
    (h : s.submit len ws = .next t) : InOrder t.overlay := by
  rw [State.submit_next] at h
  cases h
  split
  · exact ok
  · split
    · exact commandComplete_inOrder ok ws
    · exact ok

/-! ### The link (R8 to R17) -/

/-- A write beat at its watcher (R8). -/
theorem offerBeat_inOrder {s : State} (ok : InOrder s.overlay) (o : Offer × WriteBeat) : InOrder (s.offerBeat o).overlay := by
  unfold State.offerBeat
  split
  · exact takeSlotBeat_inOrder ok _ _
  · next c k kind _ => exact ok.of_frame (s.captureBeat_frame c k kind) (captureFrame_overlay _ _)
  · exact ok

theorem foldl_offerBeat_inOrder (l : List (Offer × WriteBeat)) {s : State} (ok : InOrder s.overlay) :
    InOrder (l.foldl State.offerBeat s).overlay := by
  induction l generalizing s with
  | nil => exact ok
  | cons o l ih => exact ih (offerBeat_inOrder ok o)

theorem tryWrite_inOrder {s : State} (ok : InOrder s.overlay) (held : Bool) : InOrder (s.tryWrite held).overlay := by
  unfold State.tryWrite
  split
  · split
    · exact ok
    · exact foldl_offerBeat_inOrder _ (s := s.dropRequest) ok
  · exact ok
  · exact ok

theorem takeNamed_overlay (s : State) (r : ReadReq) (k : Fin 2) : (s.takeNamed r k).overlay = s.overlay := by
  unfold State.takeNamed
  repeat' split
  all_goals rfl

theorem takeScanRead_overlay (s : State) (r : ReadReq) : (s.takeScanRead r).overlay = s.overlay := by
  unfold State.takeScanRead
  split
  · exact takeNamed_overlay s r _
  · rfl

/-- A frame start: the flip that waits, the context, the commands behind the flip, the end of an edit's wait (R47). -/
theorem takeFrameStart_inOrder {s : State} (ok : InOrder s.overlay) (r : ReadReq) (d : ScanDef) (k : Fin 2) :
    InOrder (s.takeFrameStart r d k).overlay := by
  have begun : InOrder s.beginFrame.overlay := by
    unfold State.beginFrame
    dsimp only
    split
    · exact takeFlip_inOrder (s := s.withScan _) ok
    · exact ok
  have named : InOrder ((s.beginFrame.openContext d k).takeNamed r k).overlay := by
    rw [takeNamed_overlay]
    exact begun.of_frame (s.beginFrame.openContext_frame d k) (scanFrame_overlay _ _)
  unfold State.takeFrameStart
  dsimp only
  refine settleWait_inOrder ?_
  split
  · exact startHead_inOrder named
  · exact named

theorem tryRead_inOrder {s : State} (ok : InOrder s.overlay) (held : Bool) : InOrder (s.tryRead held).overlay := by
  have scan (r : ReadReq) : InOrder (s.dropRequest.takeScanRead r).overlay := (takeScanRead_overlay s.dropRequest r) ▸ ok
  unfold State.tryRead
  split
  · next r _ =>
    split
    · exact ok
    · unfold State.takeRead
      split
      · exact ok
      · exact ok
      · split
        · split
          · exact takeFrameStart_inOrder (s := s.dropRequest) ok r _ _
          · exact scan r
        · exact scan r
        · exact scan r
  · exact ok
  · exact ok

theorem tryReadResponse_inOrder {s : State} (ok : InOrder s.overlay) : InOrder s.tryReadResponse.overlay := by
  unfold State.tryReadResponse
  split
  · exact ok.of_frame (s.takeReadResponse_frame _) rfl
  all_goals exact ok

theorem tryWriteResponse_inOrder {s : State} (ok : InOrder s.overlay) : InOrder s.tryWriteResponse.overlay := by
  unfold State.tryWriteResponse
  split <;> exact ok

/-- A delivery may retire a context and so end an edit's wait (R14, R55, R87). -/
theorem tryDeliver_inOrder {s : State} (ok : InOrder s.overlay) (n : Nat) : InOrder (s.tryDeliver n).overlay := by
  unfold State.tryDeliver
  split
  · exact ok
  · split
    · exact ok
    · unfold State.deliver State.endDelivery
      dsimp only
      split
      · split
        · exact settleWait_inOrder ok
        · exact ok
      · exact ok

/-! ### The timers (R20 to R24) -/

/-- The scan stall timer's expiry may let a waiting flip go (R60, R94). -/
theorem expireScanStall_inOrder {s : State} (ok : InOrder s.overlay) : InOrder s.expireScanStall.overlay := by
  have stalled : InOrder ((s.withScan { s.scan with stallTimer := none }).setScanStall true).overlay :=
    ok.of_frame (State.setScanStall_frame (s.withScan { s.scan with stallTimer := none }) true) rfl
  unfold State.expireScanStall
  dsimp only
  split
  · exact startHead_inOrder (takeFlip_inOrder stalled)
  · exact stalled

/-- The expiry of a timer, by its owning block. -/
theorem expire_inOrder {s : State} (ok : InOrder s.overlay) (i : TimerId) : InOrder (s.expire i).overlay := by
  cases i <;> dsimp only [State.expire]
  case debounce n => exact ok.of_frame (s.takeDebounced_frame n (s.raw n)) (lineFrame_overlay _ _)
  case rate => exact ok.of_frame s.endRateWindow_frame (lineFrame_overlay _ _)
  case lateness c => exact ok.of_frame (s.expireLateness_frame c) rfl
  case scanStall => exact expireScanStall_inOrder ok
  case linger v => exact ok.of_frame (s.setTrigger_frame v .absent) rfl
  case pulse => exact ok
  case chime => exact ok.of_frame s.endChime_frame rfl

theorem expireIfDue_inOrder {s : State} (ok : InOrder s.overlay) (i : TimerId) : InOrder (s.expireIfDue i).overlay := by
  unfold State.expireIfDue
  split
  · exact expire_inOrder ok i
  · exact ok

theorem settleTimers_inOrder {s : State} (ok : InOrder s.overlay) : InOrder s.settleTimers.overlay := by
  suffices all : ∀ (n : Nat) (l : List TimerId) (s : State), InOrder s.overlay → InOrder (s.expireAll n l).overlay from
    all _ _ s ok
  intro n
  induction n with
  | zero => exact fun _ _ ok => ok
  | succ n ih =>
    intro l s ok
    match l with
    | [] => exact ok
    | [i] => exact expireIfDue_inOrder ok i
    | i :: j :: rest => exact ih _ _ (expireIfDue_inOrder (s := { s with free := s.free + 1 }) ok _)

/-! ### Every event -/

/-- Out of reset a row of the link does what its operation does, else nothing (R3). -/
theorem unlessReset_inOrder {s t u : State} (ok : InOrder s.overlay) (ok' : InOrder t.overlay)
    (h : s.unlessReset t = .next u) : InOrder u.overlay := by
  cases h
  split
  · exact ok
  · exact ok'

/-- A pin reset leaves the compositor at its reset values (R106). -/
theorem pinReset_overlay (s : State) (low : Bool) (straps : BitVec 2) :
    (s.pinReset low straps).overlay = State.reset.overlay := rfl

/-- Every event keeps both banks and the edit carried in order (R83, R84, R86). -/
theorem exec_inOrder {s t : State} {i : Instr} (h : exec i s = .next t) (ok : InOrder s.overlay) : InOrder t.overlay := by
  cases i
  case writeRequest held r =>
    cases r with
    | none => exact unlessReset_inOrder ok (tryWrite_inOrder ok held) h
    | some w => exact unlessReset_inOrder ok (tryWrite_inOrder (s := s.offerRequest (.write w)) ok held) h
  case readRequest held r =>
    cases r with
    | none => exact unlessReset_inOrder ok (tryRead_inOrder ok held) h
    | some x => exact unlessReset_inOrder ok (tryRead_inOrder (s := s.offerRequest (.read x)) ok held) h
  case readResponse r =>
    cases r with
    | none => exact unlessReset_inOrder ok (tryReadResponse_inOrder ok) h
    | some x =>
      exact unlessReset_inOrder (s := s.offerResponse (.read x)) ok
        (tryReadResponse_inOrder (s := s.offerResponse (.read x)) ok) h
  case writeResponse r =>
    cases r with
    | none => exact unlessReset_inOrder ok (tryWriteResponse_inOrder ok) h
    | some x =>
      exact unlessReset_inOrder (s := s.offerResponse (.write x)) ok
        (tryWriteResponse_inOrder (s := s.offerResponse (.write x)) ok) h
  case responseDelivery n => exact unlessReset_inOrder ok (tryDeliver_inOrder ok n) h
  case resetAssert =>
    cases h
    exact pinReset_overlay s true s.strap ▸ inOrder_reset
  case resetRelease straps =>
    cases h
    split
    · exact pinReset_overlay s false straps ▸ inOrder_reset
    · exact ok
  case millisecondTick =>
    cases h
    split
    · exact ok
    · exact settleTimers_inOrder ok
  case clockLoss edges =>
    cases h
    split
    · exact ok
    · exact settleTimers_inOrder ok
  case clockReturn rising =>
    cases h
    split <;> exact ok
  case lineLevelChange line outside =>
    cases h
    exact ok.of_frame (s.setOutside_frame line outside) (lineFrame_overlay _ _)
  case editWaitEnd =>
    cases h
    split
    · exact ok
    · exact settleWait_inOrder ok
  case editCompletion =>
    cases h
    split
    · exact ok
    · exact completeEdit_inOrder ok
  case debounceTimerExpiry n => cases h; exact expireIfDue_inOrder ok (.debounce n)
  case rateWindowExpiry => cases h; exact expireIfDue_inOrder ok .rate
  case latenessTimerExpiry c => cases h; exact expireIfDue_inOrder ok (.lateness c)
  case scanStallTimerExpiry => cases h; exact expireIfDue_inOrder ok .scanStall
  case lingerTimerExpiry v => cases h; exact expireIfDue_inOrder ok (.linger v)
  case pulseTimerExpiry => cases h; exact expireIfDue_inOrder ok .pulse
  case chimeTimerExpiry => cases h; exact expireIfDue_inOrder ok .chime
  -- The rows that are left are the commands'.
  all_goals exact submit_inOrder ok h

/-- Settles O58: no event reaches the contents of a bank but a reset, which empties both, and the completion of an edit, which was checked against the contents it changes. -/
theorem stepKeepsTheBanks : Obligations.StepKeepsTheBanks := by
  intro s t h ok
  rw [banksOk_iff] at ok ⊢
  unfold step at h
  split at h
  · cases h
    exact ok
  · exact exec_inOrder h ok

end Sys2Proof.SpanBanks
end

section
/-! SUPPORT. O34, O35 and O5: the content checks in the terms of the statements, the completion of an edit, the end of its wait, and the compositor after a pin reset (R84 to R92, R106). -/

namespace Sys2Proof.SpanBanks

open Sys2Proof.Machine

/-! ### The content checks (R89, R90) -/

/-- A span of the key is in the bank (R89, R90). -/
theorem any_hasKey_iff (bank : List Span) (layer : Fin 8) (line x0 : Nat) :
    (bank.any fun y => y.hasKey layer line x0) = true ↔ ∃ y ∈ bank, y.line = line ∧ y.x0 = x0 ∧ y.layer = layer := by
  simp only [List.any_eq_true, hasKey_iff]

/-- Two spans of a layer on a line clash when some column lies in both (R84). -/
theorem clashes_iff_shared {x y : Span} (hx : x.Ok) (hy : y.Ok) : y.clashes x.layer x.line x.x0 x.x1 = true ↔
    y.line = x.line ∧ y.layer = x.layer ∧ ∃ column, y.x0 ≤ column ∧ column ≤ y.x1 ∧ x.x0 ≤ column ∧ column ≤ x.x1 := by
  obtain ⟨_, hx, _⟩ := hx
  obtain ⟨_, hy, _⟩ := hy
  rw [clashes_iff]
  constructor
  · rintro ⟨layer, line, left, right⟩
    exact ⟨line, layer, max y.x0 x.x0, by omega, by omega, by omega, by omega⟩
  · rintro ⟨line, layer, column, h⟩
    exact ⟨layer, line, by omega, by omega⟩

/-- A span of the bank shares a column with the span to be added (R89). -/
theorem any_clashes_iff {bank : List Span} (spans : ∀ y ∈ bank, y.Ok) {x : Span} (hx : x.Ok) :
    (bank.any fun y => y.clashes x.layer x.line x.x0 x.x1) = true ↔ ∃ y ∈ bank, y.line = x.line ∧ y.layer = x.layer
      ∧ ∃ column, y.x0 ≤ column ∧ column ≤ y.x1 ∧ x.x0 ≤ column ∧ column ≤ x.x1 := by
  rw [List.any_eq_true]
  exact exists_congr fun y => and_congr_right fun hy => clashes_iff_shared hx (spans y hy)

/-- Settles O35: each check of the model is the one stated, and the first that fails answers. -/
theorem contentChecks : Obligations.ContentChecks := by
  intro bank spans
  refine ⟨fun x hx => ?_, fun layer line x0 => ?_, rfl, rfl⟩
  · dsimp only
    rw [← any_hasKey_iff, ← any_clashes_iff spans hx, contentCheck_add]
    refine ⟨fun key => ?_, fun key shares => ?_, fun key shares line => ?_, fun key shares line size => ?_,
      fun key shares line size => ?_⟩
    · rw [if_pos key]
    · rw [if_neg key, if_pos shares]
    · rw [if_neg key, if_neg shares, if_pos line]
    · rw [if_neg key, if_neg shares, if_neg line, if_pos size]
    · rw [if_neg key, if_neg shares, if_neg line, if_neg (Nat.not_le_of_lt size)]
  · dsimp only
    rw [← any_hasKey_iff]
    unfold contentCheck
    exact ⟨fun found => if_pos found, fun found => if_neg found⟩

/-! ### The completion of an edit, and the end of its wait (R86 to R88) -/

/-- A bank is referenced when a live context has recorded it (R85). -/
theorem referenced_iff (s : State) (bank : Bank) :
    s.referenced bank = true ↔ ∃ k : Fin 2, ∃ c, s.scan.slots[k] = some c ∧ c.bank = bank := by
  have slots (k : Fin 2) : k ∈ allSlots := by revert k; decide
  simp only [State.referenced, List.any_eq_true, slots, true_and, decide_eq_true_eq, Option.map_eq_some_iff]

/-- The compositor after the completion of an edit (R88). -/
def editedOverlay (o : Overlay) (e : Edit) (target : Bank) : Overlay :=
  { o.setSpans target (o.edited e target) with engine := .idle }

theorem finishEdit_eq (s : State) (e : Edit) (target : Bank) :
    s.finishEdit e target = { s with overlay := editedOverlay s.overlay e target } := rfl

/-- The edit carried completes, and the commands behind its command start (R88, R156). -/
theorem completeEdit_of_editing {s : State} {e : Edit} {target : Bank} {q : Queued} {rest : List Queued}
    (carried : s.overlay.engine = .editing e target) (queue : s.command.queue = q :: rest) :
    s.completeEdit = (({ s with overlay := editedOverlay s.overlay e target } : State).recorded q .ok).thenRun rest := by
  simp only [State.completeEdit, carried]
  rw [finishEdit_eq]
  exact State.completeAndGo_cons _ q rest .ok queue

/-- Without an edit in EDITING nothing completes (log 27). -/
theorem completeEdit_of_not_editing {s : State} (free : ∀ e target, s.overlay.engine ≠ .editing e target) :
    s.completeEdit = s := by
  unfold State.completeEdit
  split
  · rfl
  · rfl
  · next carried => exact absurd carried (free _ _)

theorem exec_editCompletion {s : State} (high : s.resetLow = false) : exec .editCompletion s = .next s.completeEdit :=
  congrArg Host.Outcome.next (if_neg (by simp [high]))

theorem exec_editWaitEnd {s : State} (high : s.resetLow = false) : exec .editWaitEnd s = .next s.settleWait :=
  congrArg Host.Outcome.next (if_neg (by simp [high]))

/-- What the completion of an edit leaves in the compositor (R88 to R92). -/
theorem editedOverlay_spec (o : Overlay) (e : Edit) (target : Bank) :
    (editedOverlay o e target).engine = .idle ∧ (editedOverlay o e target).active = o.active
      ∧ (editedOverlay o e target).hatch = o.hatch ∧ (editedOverlay o e target).flipWaiting = o.flipWaiting
      ∧ (editedOverlay o e target).spans target.other = o.spans target.other
      ∧ (editedOverlay o e target).spans target = o.edited e target := by
  cases target <;> exact ⟨rfl, rfl, rfl, rfl, rfl, rfl⟩

section Waiting

variable {s : State} {e : Edit} {target : Bank} (carried : s.overlay.engine = .waiting e target)
include carried

/-- An edit waits while its target is referenced (R86). -/
theorem settleWait_of_referenced (held : s.referenced target = true) : s.settleWait = s := by
  simp only [State.settleWait, carried, held, if_true]

/-- A wait that ends goes on into EDITING when the content checks pass (R87). -/
theorem settleWait_of_check_passed (free : s.referenced target = false)
    (check : contentCheck e (s.overlay.spans target) = none) : s.settleWait = s.setEngine (.editing e target) := by
  simp [State.settleWait, carried, free, State.beginEdit, check]

/-- A wait that ends is refused by a content check, and the commands behind it start (R87, R156). -/
theorem settleWait_of_check_failed (free : s.referenced target = false) {r : Result}
    (check : contentCheck e (s.overlay.spans target) = some r) : s.settleWait = (s.setEngine .idle).completeAndGo r := by
  simp [State.settleWait, carried, free, State.beginEdit, check]

end Waiting

/-- Settles O34: the row of the completion is the engine's with the chain behind it, and the row of the wait is the content checks of a target that is free. -/
theorem editsWaitAndComplete : Obligations.EditsWaitAndComplete := by
  refine ⟨fun s high => ⟨fun e target q rest carried queue => ?_, fun free => ?_⟩,
    fun s e target q rest high carried queue => ?_⟩
  · obtain ⟨engine, active, hatch, flip, other, contents⟩ := editedOverlay_spec s.overlay e target
    refine ⟨editedOverlay s.overlay e target, ?_, engine, active, hatch, flip, other, ?_⟩
    · rw [exec_editCompletion high, completeEdit_of_editing carried queue]
    · rw [contents]
      cases e with
      | add x => exact fun y => mem_insertSpan x y _
      | remove layer line x0 => rfl
      | clear => rfl
      | copy => rfl
  · rw [exec_editCompletion high, completeEdit_of_not_editing free]
  · rw [← referenced_iff, exec_editWaitEnd high]
    refine ⟨fun held => by rw [settleWait_of_referenced carried held], fun unnamed => ?_⟩
    have free : s.referenced target = false := by
      rw [Bool.eq_false_iff, ne_eq, referenced_iff]
      exact fun ⟨k, c, live, bank⟩ => unnamed k c live bank
    refine ⟨fun check => by rw [settleWait_of_check_passed carried free check]; rfl, fun r check _ => ?_⟩
    rw [settleWait_of_check_failed carried free check, (s.setEngine .idle).completeAndGo_cons q rest r queue]
    rfl

/-! ### The compositor after a pin reset (R106) -/

/-- Settles O5: the assertion leaves the reset values and RESET_N low, so the release takes them again. -/
theorem compositorAfterPinReset : Obligations.CompositorAfterPinReset := by
  intro s straps
  refine ⟨s.pinReset true s.strap, (s.pinReset true s.strap).pinReset false straps, rfl, rfl, rfl, rfl, rfl, rfl, rfl, rfl,
    rfl, ?_, ?_, rfl, rfl, rfl⟩
  · exact fun k => match k with
      | 0 => rfl
      | 1 => rfl
  · exact fun bank => by cases bank <;> rfl

end Sys2Proof.SpanBanks
end

section
/-! SUPPORT. O36: the starts of the four edit commands, FLIP_BANK and SET_HATCH on a free Command Unit (R86 to R97). -/

namespace Sys2Proof.SpanBanks

open Sys2Proof.Machine Sys2Proof.Panes

/-! ### The words of the overlay commands (section 10.2) -/

/-- ADD_SPAN's fields read back from its words. -/
theorem decodeSpanArgs_encodeCommand (a : SpanArgs) : decodeSpanArgs (encodeCommand 2 (.addSpan a)) = a := by
  have w0 : wordAt (encodeCommand 2 (.addSpan a)) 0 = header 0x40 2 (Cmd.addSpan a).headerArgs := rfl
  have w1 : wordAt (encodeCommand 2 (.addSpan a)) 1 = put a.colour 0 ||| put a.x1 32 := rfl
  unfold decodeSpanArgs
  rw [w0, w1]
  simp (disch := omega) [field_header, Cmd.headerArgs, field_or, field_put, field_put_apart]

theorem decodeCommand_addSpan (a : SpanArgs) : decodeCommand (encodeCommand 2 (.addSpan a)) = some (.addSpan a) := by
  unfold decodeCommand
  rw [headerCode_encodeCommand]
  show some (Cmd.addSpan (decodeSpanArgs (encodeCommand 2 (.addSpan a)))) = _
  rw [decodeSpanArgs_encodeCommand]

/-- REMOVE_SPAN's fields read back from its word. -/
theorem decodeKeyArgs_encodeCommand (a : KeyArgs) : decodeKeyArgs (encodeCommand 1 (.removeSpan a)) = a := by
  have w0 : wordAt (encodeCommand 1 (.removeSpan a)) 0 = header 0x41 1 (Cmd.removeSpan a).headerArgs := rfl
  unfold decodeKeyArgs
  rw [w0]
  simp (disch := omega) [field_header, Cmd.headerArgs, field_or, field_put, field_put_apart]

theorem decodeCommand_removeSpan (a : KeyArgs) : decodeCommand (encodeCommand 1 (.removeSpan a)) = some (.removeSpan a) := by
  unfold decodeCommand
  rw [headerCode_encodeCommand]
  show some (Cmd.removeSpan (decodeKeyArgs (encodeCommand 1 (.removeSpan a)))) = _
  rw [decodeKeyArgs_encodeCommand]

theorem decodeCommand_clearBank : decodeCommand (encodeCommand 1 .clearBank) = some .clearBank := by
  unfold decodeCommand
  rw [headerCode_encodeCommand]
  rfl

theorem decodeCommand_copyBank : decodeCommand (encodeCommand 1 .copyBank) = some .copyBank := by
  unfold decodeCommand
  rw [headerCode_encodeCommand]
  rfl

theorem decodeCommand_flipBank : decodeCommand (encodeCommand 1 .flipBank) = some .flipBank := by
  unfold decodeCommand
  rw [headerCode_encodeCommand]
  rfl

theorem decodeCommand_setHatch (colour : Colour) :
    decodeCommand (encodeCommand 1 (.setHatch colour)) = some (.setHatch colour) := by
  have arg : field (wordAt (encodeCommand 1 (.setHatch colour)) 0) 0 24 = colour :=
    (field_header _ _ _ 0 24 (by omega)).trans (field_put colour 0 (by omega))
  unfold decodeCommand
  rw [headerCode_encodeCommand]
  show some (Cmd.setHatch (field (wordAt (encodeCommand 1 (.setHatch colour)) 0) 0 24)) = _
  rw [arg]

/-! ### A command that goes on (R157) -/

/-- A command row of its own length on a free Command Unit whose start goes on stays at the head of the queue. Here `t` is the state with the start's effect alone. -/
theorem submit_of_start_going_on {s t : State} {c : Cmd} (h : s.Ready)
    (spelt : decodeCommand (encodeCommand c.length c) = some c)
    (starts : (s.started (encodeCommand c.length c)).start c = (none, t.started (encodeCommand c.length c))) :
    s.submit c.length (encodeCommand c.length c) = .next (t.started (encodeCommand c.length c)) := by
  have framed : framedLength c.length = true := by cases c <;> rfl
  have ⟨_, free, _⟩ := h
  have alone : (s.started (encodeCommand c.length c)).withCommand { (s.started (encodeCommand c.length c)).command with
      queue := [{ seq := s.command.seq + 1, words := encodeCommand c.length c }] } = s.started (encodeCommand c.length c) := rfl
  have runs : s.handedOver (encodeCommand c.length c) = t.started (encodeCommand c.length c) := by
    rw [handedOver_of_free free, State.thenRun, alone, startWords_encodeCommand _ c spelt, starts]
  rw [State.submit_next, h.not_blocked, framed, State.commandComplete_eq_handedOver, runs]
  rfl

/-- A command row of a free Command Unit whose start is refused. -/
theorem submit_of_refused {s : State} {c : Cmd} {r : Result} (h : s.Ready)
    (spelt : decodeCommand (encodeCommand c.length c) = some c) (refused : ∀ u : State, u.start c = (some r, u)) :
    s.submit c.length (encodeCommand c.length c) = .next (s.finished r) :=
  submit_of_start h spelt rfl (refused _)

/-! ### The edit commands (R86 to R92) -/

section Edits

variable {s : State} {e : Edit}

theorem startEdit_of_referenced (held : s.referenced s.overlay.active.other = true) :
    s.startEdit e = (none, s.setEngine (.waiting e s.overlay.active.other)) := if_pos held

theorem startEdit_of_check_passed (free : s.referenced s.overlay.active.other = false)
    (check : contentCheck e (s.overlay.spans s.overlay.active.other) = none) :
    s.startEdit e = (none, s.setEngine (.editing e s.overlay.active.other)) := by
  simp [State.startEdit, Overlay.editBank, free, State.beginEdit, check]

theorem startEdit_of_check_failed (free : s.referenced s.overlay.active.other = false) {r : Result}
    (check : contentCheck e (s.overlay.spans s.overlay.active.other) = some r) :
    s.startEdit e = (some r, s.setEngine .idle) := by
  simp [State.startEdit, Overlay.editBank, free, State.beginEdit, check]

end Edits

/-- A command that starts the edit `e` makes the engine WAIT for a referenced target, begins EDITING, or is refused by a content check (R86). -/
theorem submit_edit {s : State} (h : s.Ready) {c : Cmd} {e : Edit}
    (spelt : decodeCommand (encodeCommand c.length c) = some c) (edits : ∀ u : State, u.start c = u.startEdit e) :
    (s.referenced s.overlay.active.other = true → s.submit c.length (encodeCommand c.length c)
      = .next ((s.setEngine (.waiting e s.overlay.active.other)).started (encodeCommand c.length c)))
    ∧ (s.referenced s.overlay.active.other = false → contentCheck e (s.overlay.spans s.overlay.active.other) = none →
        s.submit c.length (encodeCommand c.length c)
          = .next ((s.setEngine (.editing e s.overlay.active.other)).started (encodeCommand c.length c)))
    ∧ ∀ r, r ≠ .ok → s.referenced s.overlay.active.other = false →
        contentCheck e (s.overlay.spans s.overlay.active.other) = some r →
        s.submit c.length (encodeCommand c.length c) = .next ((s.setEngine .idle).finished r) := by
  refine ⟨fun held => ?_, fun free check => ?_, fun r _ free check => ?_⟩
  · refine submit_of_start_going_on h spelt ((edits _).trans ?_)
    exact startEdit_of_referenced (s := s.started _) held
  · refine submit_of_start_going_on h spelt ((edits _).trans ?_)
    exact startEdit_of_check_passed (s := s.started _) free check
  · refine submit_of_start h spelt rfl ((edits _).trans ?_)
    exact startEdit_of_check_failed (s := s.started _) free check

theorem spanModeOf_of_ne_three (m : BitVec 2) (h : m ≠ 3) :
    spanModeOf m = some (if m = 0 then .solid else if m = 1 then .mix else .shade) := by
  revert m
  decide

/-- ADD_SPAN's arguments in range give the span they describe (R89). -/
theorem spanOperand_of_accepted {a : SpanArgs} (mode : a.mode ≠ 3) (line : a.line.toNat ≤ 1079)
    (columns : a.x0.toNat ≤ a.x1.toNat) : spanOperand a = some
      { layer := a.layer.toFin, line := a.line.toNat, x0 := a.x0.toNat, x1 := a.x1.toNat, colour := a.colour,
        mode := if a.mode = 0 then .solid else if a.mode = 1 then .mix else .shade } := by
  simp [spanOperand, spanModeOf_of_ne_three a.mode mode, line, columns]

/-- ADD_SPAN's arguments out of range give none (R89). -/
theorem spanOperand_eq_none {a : SpanArgs} (h : a.mode = 3 ∨ 1079 < a.line.toNat ∨ a.x1.toNat < a.x0.toNat) :
    spanOperand a = none := by
  unfold spanOperand
  split
  · rfl
  · next m known =>
    rcases h with mode | range
    · rw [mode] at known
      cases known
    · refine if_neg ?_
      simp only [Bool.and_eq_true, decide_eq_true_eq]
      omega

theorem start_addSpan_of_accepted {a : SpanArgs} {x : Span} (h : spanOperand a = some x) (u : State) :
    u.start (.addSpan a) = u.startEdit (.add x) := by
  simp only [State.start, State.startAddSpan, h]

theorem start_addSpan_of_refused {a : SpanArgs} (h : spanOperand a = none) (u : State) :
    u.start (.addSpan a) = (some .badArgument, u) := by
  simp only [State.start, State.startAddSpan, h]
  rfl

theorem start_removeSpan_of_accepted {a : KeyArgs} (h : a.line.toNat ≤ 1079) (u : State) :
    u.start (.removeSpan a) = u.startEdit (.remove a.layer.toFin a.line.toNat a.x0.toNat) := by
  simp only [State.start, State.startRemoveSpan, keyOperand, if_pos h]

theorem start_removeSpan_of_refused {a : KeyArgs} (h : 1079 < a.line.toNat) (u : State) :
    u.start (.removeSpan a) = (some .badArgument, u) := by
  simp only [State.start, State.startRemoveSpan, keyOperand, if_neg (Nat.not_le_of_lt h)]
  rfl

/-! ### FLIP_BANK and SET_HATCH (R93 to R97) -/

/-- A flip waits in RUN with a live context and no scan stall (R93). -/
theorem flip_waits_iff (s : State) : (s.command.running && s.anyLive && !s.scan.scanStall) = true ↔
    s.command.running = true ∧ (∃ k : Fin 2, s.scan.slots[k].isSome = true) ∧ s.scan.scanStall = false := by
  have slots (k : Fin 2) : k ∈ allSlots := by revert k; decide
  simp only [State.anyLive, Bool.and_eq_true, List.any_eq_true, slots, true_and, Bool.not_eq_true', and_assoc]

theorem start_flipBank_waiting {s : State} (h : (s.command.running && s.anyLive && !s.scan.scanStall) = true) :
    s.start .flipBank = (none, s.withOverlay { s.overlay with flipWaiting := true }) := if_pos h

theorem start_flipBank_at_once {s : State} (h : ¬(s.command.running && s.anyLive && !s.scan.scanStall) = true) :
    s.start .flipBank = (some .ok, s.flip) := if_neg h

/-- Settles O36: each command runs through the free Command Unit to its own argument check; an edit then goes by its target and its content checks, a flip by the operating state. -/
theorem overlayCommandsStart : Obligations.OverlayCommandsStart := by
  refine ⟨fun s h => ⟨?_, ?_, fun a => ⟨fun good => ?_, fun bad => ?_⟩, fun a => ⟨fun bad => ?_, fun mode line columns => ?_⟩⟩,
    fun s h => ⟨fun waits => ?_, fun waits => ?_, fun colour => ?_⟩⟩
  · exact submit_edit h decodeCommand_clearBank fun _ => rfl
  · exact submit_edit h decodeCommand_copyBank fun _ => rfl
  · exact submit_edit h (decodeCommand_removeSpan a) (start_removeSpan_of_accepted good)
  · exact submit_of_refused h (decodeCommand_removeSpan a) (start_removeSpan_of_refused bad)
  · exact submit_of_refused h (decodeCommand_addSpan a) (start_addSpan_of_refused (spanOperand_eq_none bad))
  · exact submit_edit h (decodeCommand_addSpan a) (start_addSpan_of_accepted (spanOperand_of_accepted mode line columns))
  · exact submit_of_start_going_on (c := .flipBank) h decodeCommand_flipBank
      (start_flipBank_waiting (s := s.started _) ((flip_waits_iff s).mpr waits))
  · exact submit_of_start (c := .flipBank) h decodeCommand_flipBank rfl
      (start_flipBank_at_once (s := s.started _) (mt (flip_waits_iff s).mp waits))
  · exact submit_of_start (c := .setHatch colour) h (decodeCommand_setHatch colour) rfl rfl

end Sys2Proof.SpanBanks
end

section
/-! SUPPORT. O27 and O26: the components of a pixel, the span modes on them, the layers in their order, and the hatch (R98 to R102). -/

namespace Sys2Proof.Pixels

open Sys2Proof.Machine

/-! ### The bytes of a pixel (R101) -/

/-- The four bytes put together are found in their places. -/
theorem extract_bytes (u r g b : BitVec 8) : (u ++ r ++ g ++ b).extractLsb' 24 8 = u ∧ (u ++ r ++ g ++ b).extractLsb' 16 8 = r
    ∧ (u ++ r ++ g ++ b).extractLsb' 8 8 = g ∧ (u ++ r ++ g ++ b).extractLsb' 0 8 = b := by
  have past (x : BitVec 24) (y : BitVec 8) (lo : Nat) : (x ++ y).extractLsb' (lo + 8) 8 = x.extractLsb' lo 8 :=
    BitVec.extractLsb'_append_eq_of_le (Nat.le_add_left 8 lo)
  refine ⟨(past (u ++ r ++ g) b 16).trans ?_, (past (u ++ r ++ g) b 8).trans ?_, (past (u ++ r ++ g) b 0).trans ?_,
    BitVec.extractLsb'_append_eq_right⟩
  · exact (BitVec.extractLsb'_append_eq_of_le (by omega)).trans
      ((BitVec.extractLsb'_append_eq_of_le (by omega)).trans BitVec.extractLsb'_eq_self)
  · exact (BitVec.extractLsb'_append_eq_of_le (by omega)).trans BitVec.extractLsb'_append_eq_right
  · exact BitVec.extractLsb'_append_eq_right

/-- A pixel is its four bytes put together. -/
theorem bytes_of_pixel (p : Pixel) :
    p.extractLsb' 24 8 ++ p.extractLsb' 16 8 ++ p.extractLsb' 8 8 ++ p.extractLsb' 0 8 = p := by
  have glue (lo n : Nat) : p.extractLsb' (lo + 8) n ++ p.extractLsb' lo 8 = p.extractLsb' lo (n + 8) :=
    BitVec.extractLsb'_append_extractLsb'_eq_extractLsb' rfl
  have upper := congrArg (· ++ p.extractLsb' 8 8 ++ p.extractLsb' 0 8) (glue 16 8)
  have colour := congrArg (· ++ p.extractLsb' 0 8) (glue 8 16)
  exact upper.trans (colour.trans ((glue 0 24).trans BitVec.extractLsb'_eq_self))

theorem component_lt {w : Nat} (v : BitVec w) (lo : Nat) : component v lo < 256 := (v.extractLsb' lo 8).isLt

/-- The unused byte of a pixel passes whatever its colour becomes (R101). -/
theorem combine_unused (f : Nat → Nat → Nat) (p : Pixel) (c : Colour) :
    (combine f p c).extractLsb' 24 8 = p.extractLsb' 24 8 :=
  (extract_bytes _ _ _ _).1

/-- A colour component of a combined pixel is combined from those of the same place, in eight bits (R101). -/
theorem component_combine (f : Nat → Nat → Nat) (p : Pixel) (c : Colour) {lo : Nat} (h : lo = 0 ∨ lo = 8 ∨ lo = 16) :
    component (combine f p c) lo = f (component p lo) (component c lo) % 256 := by
  obtain ⟨_, red, green, blue⟩ := extract_bytes (p.extractLsb' 24 8) (BitVec.ofNat 8 (f (component p 16) (component c 16)))
    (BitVec.ofNat 8 (f (component p 8) (component c 8))) (BitVec.ofNat 8 (f (component p 0) (component c 0)))
  rcases h with rfl | rfl | rfl
  · exact congrArg BitVec.toNat blue
  · exact congrArg BitVec.toNat green
  · exact congrArg BitVec.toNat red

/-- A mode makes a component of two components. -/
theorem apply_lt (m : SpanMode) {a b : Nat} (ha : a < 256) (hb : b < 256) : m.apply a b < 256 := by
  cases m <;> dsimp only [SpanMode.apply] <;> omega

/-- A mode changes each colour component by itself (R101). -/
theorem component_combine_mode (m : SpanMode) (p : Pixel) (c : Colour) {lo : Nat} (h : lo = 0 ∨ lo = 8 ∨ lo = 16) :
    component (combine m.apply p c) lo = m.apply (component p lo) (component c lo) := by
  rw [component_combine _ p c h, Nat.mod_eq_of_lt (apply_lt m (component_lt p lo) (component_lt c lo))]

/-- The colour of a pixel has the pixel's colour components. -/
theorem component_colour (p : Pixel) {lo : Nat} (h : lo = 0 ∨ lo = 8 ∨ lo = 16) :
    component (p.extractLsb' 0 24) lo = component p lo := by
  refine congrArg BitVec.toNat (BitVec.eq_of_getLsbD_eq fun i hi => ?_)
  have inside : lo + i < 24 := by omega
  simp [hi, inside]

/-- MIX of a pixel's own colour leaves the pixel (R101). -/
theorem combine_mix_self (p : Pixel) : combine SpanMode.mix.apply p (p.extractLsb' 0 24) = p := by
  have mean (n : Nat) : SpanMode.mix.apply n n = n := by
    dsimp only [SpanMode.apply]
    omega
  have byte (lo : Nat) : BitVec.ofNat 8 (component p lo) = p.extractLsb' lo 8 := BitVec.ofNat_toNat _ _
  unfold combine
  rw [component_colour p (by omega), component_colour p (by omega), component_colour p (by omega), mean, mean, mean, byte, byte,
    byte]
  exact bytes_of_pixel p

/-- Settles O27: every mode, and the hatch with them, is `combine`, which keeps the unused byte and treats each component by itself. -/
theorem spanModesChangeComponents : Obligations.SpanModesChangeComponents := by
  refine ⟨fun m p c lo h => ?_, fun m p c => combine_unused _ p c, fun x line column p => ?_, fun p c c' lo h => ?_,
    fun p c h => ?_⟩
  · refine (component_combine_mode m p c h).trans ?_
    cases m <;> rfl
  · unfold Context.applyHatch
    split
    · exact combine_unused _ p _
    · rfl
  · show component (combine SpanMode.shade.apply (combine SpanMode.shade.apply p c) c') lo = component p lo / 2 / 2
    rw [component_combine_mode _ _ _ h, component_combine_mode _ _ _ h]
    rfl
  · rw [h]
    exact combine_mix_self p

/-! ### The layers (R100) -/

theorem covers_iff (x : Span) (line column : Nat) :
    x.covers line column = true ↔ x.line = line ∧ x.x0 ≤ column ∧ column ≤ x.x1 := by
  simp only [Span.covers, Bool.and_eq_true, decide_eq_true_eq, and_assoc]

/-- The span found on a layer is one of the bank that covers the pixel there. -/
theorem layerSpan_some {bank : List Span} {layer : Fin 8} {line column : Nat} {x : Span}
    (h : layerSpan bank layer line column = some x) :
    x ∈ bank ∧ x.layer = layer ∧ x.line = line ∧ x.x0 ≤ column ∧ column ≤ x.x1 := by
  have found := List.find?_some h
  simp only [Bool.and_eq_true, decide_eq_true_eq, covers_iff] at found
  exact ⟨List.mem_of_find?_eq_some h, found⟩

/-- No span is found on a layer when none of the bank covers the pixel there. -/
theorem layerSpan_none {bank : List Span} {layer : Fin 8} {line column : Nat} (h : layerSpan bank layer line column = none) :
    ∀ x ∈ bank, ¬(x.layer = layer ∧ x.line = line ∧ x.x0 ≤ column ∧ column ≤ x.x1) := by
  have missed := List.find?_eq_none.mp h
  simpa only [Bool.and_eq_true, decide_eq_true_eq, covers_iff] using missed

/-- One step for each layer in increasing order makes the pixel after the layers below 8 of the pixel before them. -/
theorem foldl_allLayers {f : Pixel → Fin 8 → Pixel} {made : Nat → Pixel}
    (step : ∀ n : Fin 8, f (made n.val) n = made (n.val + 1)) : allLayers.foldl f (made 0) = made 8 := by
  have upTo (k : Nat) (hk : k ≤ 8) : ((List.finRange 8).take k).foldl f (made 0) = made k := by
    induction k with
    | zero => rfl
    | succ k ih =>
      rw [List.take_add_one, List.foldl_append, ih (by omega)]
      simpa [show k < 8 by omega] using step ⟨k, hk⟩
  exact upTo 8 (Nat.le_refl 8)

/-! ### The hatch (R102) -/

/-- A pixel takes the hatch on the pattern inside a STALE or DARK pane (R102). -/
theorem hatched_iff (c : Context) (line column : Nat) :
    (onHatch line column && c.panes.any fun e => e.hatched && e.geo.holdsPixel line column) = true ↔
      (column + line) / 8 % 2 = 0 ∧ ∃ e ∈ c.panes, e.judgement ≠ .live ∧ e.geo.top ≤ line
        ∧ line < e.geo.top + e.geo.height ∧ e.geo.left ≤ column ∧ column < e.geo.left + e.geo.width := by
  simp only [onHatch, PaneEntry.hatched, PaneGeo.holdsPixel, Bool.and_eq_true, List.any_eq_true, decide_eq_true_eq, and_assoc]

/-- Settles O26: the layers are a fold whose step is the one stated, and the hatch comes after it. -/
theorem pixelsAreComposed : Obligations.PixelsAreComposed := by
  intro c bank line column p _
  refine ⟨fun outside => ?_, fun made width height start layers => ?_⟩
  · refine if_neg ?_
    simp only [Bool.and_eq_true, decide_eq_true_eq]
    omega
  · have step (n : Fin 8) : applyLayer bank c.mask line column (made n.val) n = made (n.val + 1) := by
      obtain ⟨covered, passed⟩ := layers n
      unfold applyLayer
      split
      · next visible =>
        split
        · next x found =>
          obtain ⟨mem, layer, on, left, right⟩ := layerSpan_some found
          exact (covered x mem visible layer on left right).symm
        · next missed => exact (passed (.inr (layerSpan_none missed))).symm
      · next hidden => exact (passed (.inl (Bool.eq_false_iff.mpr hidden))).symm
    have inside : c.composePixel bank line column p = c.applyHatch line column (made 8) := by
      unfold Context.composePixel applySpans
      rw [← start, foldl_allLayers step, if_pos (by simp [width, height])]
    dsimp only
    rw [← hatched_iff, inside]
    exact ⟨fun on => if_pos on, fun off => if_neg off⟩

end Sys2Proof.Pixels
end
